-- ==== Sys2Proof/Word.lean ====
section
/-! DEFINITION. The word types of the ZS-1640 and the few plain operations on fixed tables of them. -/

namespace Sys2Proof

/-- One register byte, image byte or byte on a wire. -/
abbrev Byte := BitVec 8

/-- A 16-bit quantity, held high byte first (Conventions, byte order). -/
abbrev Half := BitVec 16

/-- A window address as the register pointer holds it: eleven bits (R174). -/
abbrev Addr := BitVec 11

/-- A node entry number, 0–15 (R21). -/
abbrev NodeIx := Fin 16

/-- A schedule slot number, 0–31 (R61). -/
abbrev SlotIx := Fin 32

/-- A transaction entry number, 0–7 (R129). -/
abbrev TxnIx := Fin 8

/-- A timing profile number, 0–3 (R13). -/
abbrev ProfileIx := Fin 4

/-- An image byte number within a node, 0–7 (R101). -/
abbrev ByteIx := Fin 8

/-- The high byte of a 16-bit quantity. -/
def hiByte (h : Half) : Byte := h.extractLsb' 8 8

/-- The low byte of a 16-bit quantity. -/
def loByte (h : Half) : Byte := h.extractLsb' 0 8

/-- Two bytes, high byte first, as one 16-bit quantity. -/
def joinBytes (hi lo : Byte) : Half := hi ++ lo

/-- A count as a register byte. -/
def byteOf (n : Nat) : Byte := BitVec.ofNat 8 n

/-- One more, except that `top` stays `top`: the saturating counts of the manual. -/
def succUpTo (top n : Nat) : Nat := if n < top then n + 1 else n

/-- The table whose entry `i` is `f i`. -/
def tabulate (n : Nat) (f : Fin n → α) : Vector α n := ⟨⟨List.ofFn f⟩, by simp⟩

/-- Every entry of a table through `f`. -/
def tabMap (f : α → β) (v : Vector α n) : Vector β n := ⟨⟨v.toList.map f⟩, by simp⟩

end Sys2Proof
end

