-- ==== Sys2Proof/Syntax.lean ====
section
/-! DEFINITION. The commands the block takes: one constructor per row of spec/opcode_table.json, with the row's operands. -/

namespace Sys2Proof

/-- What begins a device reset (R163, R180). -/
inductive ResetCause where
  | powerOn
  | resetPin
  deriving DecidableEq, Repr

/-- The polarity of an edge on SYNC (R70). -/
inductive Edge where
  | rising
  | falling
  deriving DecidableEq, Repr

/-- What a request that arrives at the very moment of a completion meets, where the completion makes a retry pending:
R18 lets it be taken before the retry's hand-over or after it (DESIGN CHOICE, log entry 6: safe). -/
inductive RetryOrder where
  /-- the retry is handed over within the completion's own step -/
  | retryFirst
  /-- the next command is taken while the retry is still pending, and the retry's hand-over follows it -/
  | requestFirst
  deriving DecidableEq, Repr

/-- The commands of the block. A bus command carries the byte on the bus; which register it reaches is decided by the
phase of the transfer and the pointer, as R172 to R175 state (DESIGN CHOICE, log entries 3 and 5: safe). -/
inductive Instr where
  /-- ADDRESS_BYTE: a START or repeated START and its address byte (R171) -/
  | addressByte (b : Byte)
  /-- POINTER_HIGH_BYTE (R172) -/
  | pointerHighByte (b : Byte)
  /-- POINTER_LOW_BYTE (R172) -/
  | pointerLowByte (b : Byte)
  /-- REGISTER_WRITE: a data byte for a register with no row of its own (R172) -/
  | registerWrite (b : Byte)
  /-- OUTPUT_WRITE (R103) -/
  | outputWrite (b : Byte)
  /-- OPTIONS_WRITE (R24, R124) -/
  | optionsWrite (b : Byte)
  /-- SLOT_WRITE (R62, R64) -/
  | slotWrite (b : Byte)
  /-- CYCLE_PERIOD_WRITE (R68) -/
  | cyclePeriodWrite (b : Byte)
  /-- HOST_ERR_CLEAR (R169) -/
  | hostErrClear (b : Byte)
  /-- SNAPSHOT_READ: the next byte of a read transfer, in the status area or the input window (R110) -/
  | snapshotRead
  /-- CYCLE_NUMBER_READ (R81) -/
  | cycleNumberRead
  /-- EVQ_LOST_READ (R155) -/
  | evqLostRead
  /-- EVQ_DATA_READ (R157) -/
  | evqDataRead
  /-- ALLOC: a byte read from TXN_ALLOC (R133) -/
  | alloc
  /-- SUBMIT of a handle (R134) -/
  | submit (handle : Byte)
  /-- CANCEL of a handle (R141) -/
  | cancel (handle : Byte)
  /-- RELEASE of a handle (R144) -/
  | release (handle : Byte)
  /-- START_SCAN (R72) -/
  | startScan
  /-- STOP_SCAN (R78) -/
  | stopScan
  /-- TRIGGER_CYCLE (R71) -/
  | triggerCycle
  /-- NODE_ENABLE of the node in CMD_ARG (R29) -/
  | nodeEnable
  /-- NODE_DISABLE of the node in CMD_ARG (R31) -/
  | nodeDisable
  /-- NODE_REPROBE of the node in CMD_ARG (R33) -/
  | nodeReprobe
  /-- EVQ_FLUSH (R159) -/
  | evqFlush
  /-- SCAN_CLEAR (R82) -/
  | scanClear
  /-- SOFT_RESET (R179) -/
  | softReset
  /-- UNKNOWN_COMMAND: a code byte with no command (R178) -/
  | unknownCommand (code : Byte)
  /-- TRANSFER_END: STOP or repeated START (R176) -/
  | transferEnd
  /-- BUS_TIMEOUT (R177) -/
  | busTimeout
  /-- DEVICE_RESET: power-on or assertion of RESET# (R180) -/
  | deviceReset (cause : ResetCause)
  /-- DEVICE_RESET_END, with the levels on ADR1 and ADR0 (R171, R180) -/
  | deviceResetEnd (straps : BitVec 2)
  /-- INIT_PERIOD_END (R180) -/
  | initPeriodEnd
  /-- CYCLE_TIMER_EXPIRY (R69) -/
  | cycleTimerExpiry
  /-- SYNC_INPUT_EDGE (R70) -/
  | syncInputEdge (edge : Edge)
  /-- SELECT_ASSERT (R2) -/
  | selectAssert
  /-- EXCHANGE_COMPLETION, with the bytes the node drove on SDI in the reply phase (R3, R8) -/
  | exchangeCompletion (reply : List Byte) (order : RetryOrder)
  /-- ATTN_DELAY_EXPIRY (R166) -/
  | attnDelayExpiry
  /-- HOST_NOT_ACKNOWLEDGE (R173) -/
  | hostNotAcknowledge
  deriving DecidableEq, Repr

end Sys2Proof
end

