-- ==== Sys2Proof/Decode.lean ====
section
/-! DEFINITION. The decoder of command words. No row of spec/opcode_table.json gives bits, so no word spells a command. -/

namespace Sys2Proof

/-- The rows of the opcode table that give an encoding: none does, every row's "fields" being empty and none having
"fixed" (log entry 21). -/
def encodedRows : List (Nat × Nat × Nat × Instr) := []

/-- The command that a word of `nbits` bits spells by the table's bits: the first row (width, mask, pattern, command)
that it matches. -/
def decodeTableWord (nbits w : Nat) : Option Instr :=
  (encodedRows.find? fun row => row.1 == nbits && w &&& row.2.1 == row.2.2.1).map fun row => row.2.2.2

end Sys2Proof
end

