-- ==== Sys2Proof/Config.lean ====
section
/-! DEFINITION. What the manual fixes once for the part: identity, addresses, command codes and the constants of its clocks.
One free value stands here: the levels on the strap pins, which the board sets and no command carries to a soft reset. -/

namespace Sys2Proof.Config

/-- DEVICE_ID (R175). -/
def deviceId : Byte := 0x40

/-- REVISION (R175). -/
def revision : Byte := 0x01

/-- The 7-bit target address with both straps low (R171). -/
def baseTarget : BitVec 7 := 0x58

/-- The levels on ADR1 and ADR0 that the `k`-th initialization period begun by a soft reset finds: a free value, since the
board may move the pins while the part runs (R171; DESIGN CHOICE, log entry 2: safe). -/
opaque strapLevels (k : Nat) : BitVec 2

/-- The most records the queue stores (R151). -/
def queueDepth : Nat := 32

/-- The largest lost count (R155). -/
def lostMax : Nat := 65535

/-- The low eight terms of the check byte's polynomial (R7). -/
def checkPoly : Byte := 0x2F

/-- The working value a check byte starts from (R7). -/
def checkSeed : Byte := 0xFF

/-- A reply byte when no node drives SDI (R8). -/
def undriven : Byte := 0xFF

/-- The node field of a record that belongs to no node (R148). -/
def noNode : Byte := 0xFF

/-- What TXN_ALLOC returns when no entry is FREE, and RESULT while there is none (R129, R133). -/
def noHandle : Byte := 0xFF

/-- The address of the command register, captured with a command's error (R169). -/
def cmdAddr : Addr := 0x009

/-- The initialization period of 250 µs in the 10 µs units of the model's clock (R180). -/
def initTicks : Nat := 25

/-- One millisecond of the head-age timer in the 10 µs units of the model's clock (R166). -/
def ticksPerMs : Nat := 100

/-- The bits of EVQ_KIND_ENABLE that are held, by byte (R150). -/
def kindMaskHigh : Byte := 0x01
/-- The held bits of the low byte of EVQ_KIND_ENABLE (R150). -/
def kindMaskLow : Byte := 0xDE

/-- Command codes (R178). -/
def codeStartScan : Byte := 0x01
/-- STOP_SCAN (R178). -/
def codeStopScan : Byte := 0x02
/-- TRIGGER_CYCLE (R178). -/
def codeTriggerCycle : Byte := 0x03
/-- NODE_ENABLE (R178). -/
def codeNodeEnable : Byte := 0x10
/-- NODE_DISABLE (R178). -/
def codeNodeDisable : Byte := 0x11
/-- NODE_REPROBE (R178). -/
def codeNodeReprobe : Byte := 0x12
/-- EVQ_FLUSH (R178). -/
def codeEvqFlush : Byte := 0x20
/-- SCAN_CLEAR (R178). -/
def codeScanClear : Byte := 0x30
/-- SOFT_RESET (R178). -/
def codeSoftReset : Byte := 0x5A

/-- Every code that has a command (R178). -/
def commandCodes : List Byte :=
  [codeStartScan, codeStopScan, codeTriggerCycle, codeNodeEnable, codeNodeDisable, codeNodeReprobe,
   codeEvqFlush, codeScanClear, codeSoftReset]

end Sys2Proof.Config
end

