-- ==== Sys2Proof/Machine/State.lean ====
section
/-! DEFINITION. Everything the manual gives the ZS-1640 to remember, as plain data, and its values after reset. -/

namespace Sys2Proof.Machine

/-! ## Names of states and codes -/

/-- Supervision states of a node (R38). -/
inductive NodeState where
  | disabled
  | probing
  | online
  | suspect
  | offline
  | mismatch
  deriving DecidableEq, Repr

/-- The op of a request header (R5). -/
inductive LinkOp where
  | cyclic
  | readReg
  | writeReg
  | ident
  deriving DecidableEq, Repr

/-- The classification of a completed exchange (R10). -/
inductive LinkOutcome where
  | ok
  | noReply
  | checkError
  | seqError
  | busy
  | refused
  deriving DecidableEq, Repr

/-- States of the scan engine (R66). -/
inductive EngineState where
  | stopped
  | waiting
  | cycling
  | draining
  deriving DecidableEq, Repr

/-- START_SOURCE (R67). -/
inductive StartSource where
  | timer
  | sync
  | host
  deriving DecidableEq, Repr

/-- LINK_MODE (R88). -/
inductive LinkMode where
  | scanFirst
  | interleave
  | txnFirst
  deriving DecidableEq, Repr

/-- EVQ_POLICY (R160). -/
inductive LossPolicy where
  | keepOldest
  | keepNewest
  deriving DecidableEq, Repr

/-- The kinds of record the queue stores (R149). -/
inductive EventKind where
  | reset
  | inputChange
  | matchEvent
  | nodeState
  | nodeAlert
  | txnEnd
  | cycleDone
  | cycleOverrun
  | scanState
  deriving DecidableEq, Repr

/-- CMD_STATUS (R170). -/
inductive CmdStatus where
  | ok
  | refusedState
  | badArg
  | unknown
  | pending
  deriving DecidableEq, Repr

/-- The host errors (R168). -/
inductive HostError where
  | writeRo
  | undefinedAddr
  | nodeLocked
  | profileLocked
  | scanLocked
  | evqLocked
  | txnLocked
  | badValue
  | configInvalid
  | badHandle
  | tooLate
  | cmdRefused
  | cmdUnknown
  deriving DecidableEq, Repr

/-- States of a transaction entry (R129). -/
inductive TxnState where
  | free
  | reserved
  | queued
  | active
  | done
  | failed
  | cancelled
  deriving DecidableEq, Repr

/-- RESULT of a transaction entry (R138). -/
inductive TxnResult where
  | link (o : LinkOutcome)
  | nodeUnavailable
  | cancelled
  deriving DecidableEq, Repr

/-- The class of a work item, as the arbiter named it (R16); a transaction carries its entry's handle. -/
inductive WorkClass where
  | slot
  | urgent
  | gapProbe
  | txn (handle : Byte)
  deriving DecidableEq, Repr

/-- The class of the previous work item (R85). -/
inductive PrevWork where
  | none
  | urgent
  | slot
  | gapProbe
  | txn
  deriving DecidableEq, Repr

/-- A node command that waits for the work item of its node (R32, R34). -/
inductive NodeCmd where
  | disable
  | reprobe
  deriving DecidableEq, Repr

/-- Which command answered PENDING still owns CMD_STATUS, no other command having been taken since (R28). -/
inductive Awaited where
  | nodeCommand
  | stopScan
  deriving DecidableEq, Repr

/-- Phases of the host port (R172). `readDone` is READ_DATA after a byte the host did not acknowledge. -/
inductive PortPhase where
  | idle
  | pointerHigh
  | pointerLow
  | writeData
  | readData
  | readDone
  deriving DecidableEq, Repr

/-- What began the reset that the RESET record will name (R163). -/
inductive ResetReason where
  | powerOn
  | resetPin
  | softReset
  deriving DecidableEq, Repr

/-- Where the part stands between resets (R180). -/
inductive Power where
  /-- a device reset lasts -/
  | held (why : ResetReason)
  /-- the initialization period runs, with this many units of 10 µs to go -/
  | initializing (why : ResetReason) (ticksLeft : Nat)
  | running
  deriving DecidableEq, Repr

/-! ## The blocks -/

/-- One timing profile (R13), each field as its register byte. -/
structure Profile where
  rate    : Byte
  mode    : Byte
  setup   : Byte
  hold    : Byte
  byteGap : Byte
  turn    : Byte
  deriving DecidableEq, Repr

/-- One node entry: configuration and status (R21, R26), and what the other blocks hold for the same node: the images
(R101), the change masks and the baseline flag (R115), the due flag and the gap-probe mark (R92, R95). -/
structure Node where
  segment      : Byte
  address      : Byte
  profile      : Byte
  outLen       : Byte
  inLen        : Byte
  expectType   : Byte
  options      : Byte
  matchValueHi : Byte
  matchValueLo : Byte
  matchMaskHi  : Byte
  matchMaskLo  : Byte
  state        : NodeState
  failCount    : Nat
  seq          : Bool
  alert        : Bool
  matchState   : Bool
  reprobe      : Nat
  inputAge     : Nat
  lastStatus   : Byte
  lastOutcome  : Option LinkOutcome
  reportedType : Byte
  reportedOut  : BitVec 4
  reportedIn   : BitVec 4
  baseline     : Bool
  due          : Bool
  gapMark      : Bool
  output       : Vector Byte 8
  input        : Vector Byte 8
  rise         : Vector Byte 8
  fall         : Vector Byte 8
  deriving DecidableEq, Repr

/-- One schedule slot, as its two bytes (R61). -/
structure Slot where
  byte0 : Byte
  byte1 : Byte
  deriving DecidableEq, Repr

/-- The scan engine and the scan configuration group (R66). `timer` counts units of 10 µs and is `none` while the cycle
timer stands stopped (R69). -/
structure Engine where
  state            : EngineState
  cycle            : Half
  timer            : Option Nat
  latchedLen       : Nat
  cursor           : Nat
  evaluated        : Nat
  failed           : Nat
  dropped          : Nat
  overruns         : Nat
  source           : StartSource
  syncEdge         : Edge
  linkMode         : LinkMode
  period           : Half
  pendingHigh      : Option Byte
  schedLen         : Byte
  retryLimit       : Byte
  offlineThreshold : Byte
  reprobeInterval  : Byte
  deriving DecidableEq, Repr

/-- The exchange in flight, as latched at its hand-over (R2), and whether its select line has been driven low. -/
structure Exchange where
  node      : NodeIx
  segment   : Byte
  address   : Byte
  profile   : Profile
  op        : LinkOp
  toggle    : Bool
  payload   : List Byte
  replyLen  : Nat
  selected  : Bool
  deriving DecidableEq, Repr

/-- The completion record of an attempt (R11): the status byte is present for OK, BUSY and REFUSED, the payload for OK. -/
structure Completion where
  node    : NodeIx
  op      : LinkOp
  toggle  : Bool
  attempt : Nat
  outcome : LinkOutcome
  status  : Option Byte
  payload : List Byte
  deriving DecidableEq, Repr

/-- A work item in progress has an attempt in flight or a retry pending (R18); a pending retry keeps the completion
record of the last completed attempt, which a withdrawal makes final. -/
inductive AttemptPhase where
  | inFlight (x : Exchange)
  | retryPending (last : Completion)
  deriving DecidableEq, Repr

/-- The work item the Link Controller holds (R16), with the node command that waits for it (R32, R34). -/
structure WorkItem where
  cls        : WorkClass
  op         : LinkOp
  node       : NodeIx
  toggle     : Bool
  attempt    : Nat
  suppressed : Bool
  nodeCmd    : Option NodeCmd
  phase      : AttemptPhase
  deriving DecidableEq, Repr

/-- The Link Controller and the arbiter's record (R1, R16, R85). `sckMode` is the MODE of the profile latched by the
most recent exchange. `rested` says that 2 µs have passed since the last select line was released, or that none has
been released since reset (R2). -/
structure Link where
  profiles : Vector Profile 4
  work     : Option WorkItem
  sckMode  : Byte
  rested   : Bool
  prev     : PrevWork
  deriving DecidableEq, Repr

/-- One stored record of the event queue (R148). -/
structure Record where
  kind  : EventKind
  node  : Byte
  stamp : Half
  arg0  : Byte
  arg1  : Byte
  deriving DecidableEq, Repr

/-- The item whose bytes are being read (R157): the head record, a report with its latch, or the EMPTY record. -/
inductive OpenItem where
  | stored
  | report (stamp : Half) (count : Nat)
  | empty (stamp : Half)
  deriving DecidableEq, Repr

/-- The open item and the index of its next byte (R157). -/
structure Reading where
  item : OpenItem
  next : Fin 6
  deriving DecidableEq, Repr

/-- The event queue (R151 to R160) and the age of its head (R166): whole milliseconds, and units of 10 µs within one. -/
structure Evq where
  records    : List Record
  lost       : Nat
  overflowed : Bool
  policy     : LossPolicy
  kindEnable : Half
  reading    : Option Reading
  headAge    : Nat
  headSub    : Nat
  deriving DecidableEq, Repr

/-- The attention registers that are written (R164). -/
structure Attn where
  level : Byte
  delay : Byte
  mask  : Byte
  deriving DecidableEq, Repr

/-- The host error capture (R168). -/
structure ErrCapture where
  flag     : Bool
  multiple : Bool
  code     : Option HostError
  addr     : Addr
  deriving DecidableEq, Repr

/-- The command register's companions (R170, R178), and whose answer CMD_STATUS still awaits (R28). -/
structure CmdRegs where
  arg     : Byte
  status  : CmdStatus
  awaited : Option Awaited
  deriving DecidableEq, Repr

/-- One transaction entry (R129), with its cancel mark (R142). `result` is `none` where RESULT reads 0xFF. -/
structure Txn where
  state       : TxnState
  gen         : BitVec 4
  result      : Option TxnResult
  attempts    : Nat
  replyStatus : Byte
  node        : Byte
  op          : Byte
  regIndex    : Byte
  count       : Byte
  wdata       : Vector Byte 8
  rdata       : Vector Byte 8
  cancelMark  : Bool
  deriving DecidableEq, Repr

/-- The staging buffer's contents (R103): an address of the output window is listed when its staged mark is set
(DESIGN CHOICE, log entry 25: safe). -/
abbrev Memory := List Host.Cell

/-- The snapshot of the status area and the input window (R110). -/
structure Snapshot where
  status : Vector (Vector Byte 8) 16
  input  : Vector (Vector Byte 8) 16
  deriving DecidableEq, Repr

/-- The host port (R171 to R179). `readDue` says that the first byte of a read transfer is about to be returned (R173);
`ack` is the acknowledge the port gave to the last byte it received; `sdaByte` the byte it is returning. `readDue` is DEDUCED
(log entry 4: safe); the reset values of these three are a DESIGN CHOICE (log entry 14: unsafe). -/
structure Port where
  phase    : PortPhase
  straps   : BitVec 2
  heldHigh : Option Byte
  pointer  : Addr
  readDue  : Bool
  ack      : Bool
  sdaByte  : Option Byte
  softMark : Bool
  staging  : Memory
  snapshot : Option Snapshot
  cycleCap : Option Half
  lostCap  : Option Half
  deriving DecidableEq, Repr

/-- The strap pins: the levels on ADR1 and ADR0 at the last sampling (R171), and how many samplings a soft reset has made,
which is the model's own (log entry 2). -/
structure AdrPins where
  levels  : BitVec 2
  samples : Nat
  deriving DecidableEq, Repr

/-- The whole part, and the commands that wait. -/
structure State where
  power     : Power
  nodes     : Vector Node 16
  slots     : Vector Slot 32
  engine    : Engine
  link      : Link
  txns      : Vector Txn 8
  order     : List TxnIx
  evq       : Evq
  attn      : Attn
  err       : ErrCapture
  cmd       : CmdRegs
  port      : Port
  adrPins   : AdrPins
  pending   : List Instr
  deriving DecidableEq, Repr

/-! ## Reset values -/

/-- A profile after reset (R13). -/
def Profile.reset : Profile :=
  { rate := 3, mode := 0, setup := 2, hold := 2, byteGap := 0, turn := 1 }

/-- A node entry after reset (R21, R26, R37, R60, R97, R114, R126). -/
def Node.reset : Node :=
  { segment := 0, address := 0, profile := 0, outLen := 0, inLen := 0, expectType := 0, options := 0,
    matchValueHi := 0, matchValueLo := 0, matchMaskHi := 0, matchMaskLo := 0,
    state := .disabled, failCount := 0, seq := false, alert := false, matchState := false, reprobe := 0,
    inputAge := 255, lastStatus := 0, lastOutcome := none, reportedType := 0, reportedOut := 0, reportedIn := 0,
    baseline := false, due := false, gapMark := false,
    output := Vector.replicate 8 0, input := Vector.replicate 8 0,
    rise := Vector.replicate 8 0, fall := Vector.replicate 8 0 }

/-- A slot after reset (R61). -/
def Slot.reset : Slot := { byte0 := 0, byte1 := 0 }

/-- The engine after reset (R66, R83). -/
def Engine.reset : Engine :=
  { state := .stopped, cycle := 0, timer := none, latchedLen := 0, cursor := 0, evaluated := 0, failed := 0,
    dropped := 0, overruns := 0, source := .timer, syncEdge := .rising, linkMode := .interleave, period := 100,
    pendingHigh := none, schedLen := 0, retryLimit := 2, offlineThreshold := 3, reprobeInterval := 100 }

/-- The link after reset (R1, R2, R13, R97). -/
def Link.reset : Link :=
  { profiles := Vector.replicate 4 Profile.reset, work := none, sckMode := 0, rested := true, prev := .none }

/-- The event queue as a reset leaves it, before the RESET record (R163, R166). -/
def Evq.reset : Evq :=
  { records := [], lost := 0, overflowed := false, policy := .keepOldest, kindEnable := 0x019E, reading := none,
    headAge := 0, headSub := 0 }

/-- The attention registers after reset (R164). -/
def Attn.reset : Attn := { level := 1, delay := 0, mask := 0x03 }

/-- The host error capture after reset (R168). -/
def ErrCapture.reset : ErrCapture := { flag := false, multiple := false, code := none, addr := 0 }

/-- CMD_ARG and CMD_STATUS after reset (R170, R178). -/
def CmdRegs.reset : CmdRegs := { arg := 0, status := .ok, awaited := none }

/-- A transaction entry after reset (R129, R147). -/
def Txn.reset : Txn :=
  { state := .free, gen := 0, result := none, attempts := 0, replyStatus := 0, node := 0, op := 0, regIndex := 0,
    count := 0, wdata := Vector.replicate 8 0, rdata := Vector.replicate 8 0, cancelMark := false }

/-- The strap pins as `State.reset` has them (DESIGN CHOICE, log entries 1 and 2: unsafe). -/
def AdrPins.reset : AdrPins := { levels := 0, samples := 0 }

/-- The host port after reset (R172), with the straps it sampled. -/
def Port.reset (straps : BitVec 2) : Port :=
  { phase := .idle, straps := straps, heldHigh := none, pointer := 0, readDue := false, ack := false, sdaByte := none,
    softMark := false, staging := [], snapshot := none, cycleCap := none, lostCap := none }

/-- Every block at its reset values (R180), in the given power phase, with the given strap pins and the given commands
waiting. -/
def State.atReset (power : Power) (pins : AdrPins) (pending : List Instr) : State :=
  { power := power, nodes := Vector.replicate 16 Node.reset, slots := Vector.replicate 32 Slot.reset,
    engine := Engine.reset, link := Link.reset, txns := Vector.replicate 8 Txn.reset, order := [], evq := Evq.reset,
    attn := Attn.reset, err := ErrCapture.reset, cmd := CmdRegs.reset, port := Port.reset pins.levels, adrPins := pins,
    pending := pending }

/-- The RESET record (R163). -/
def Record.ofReset (why : ResetReason) : Record :=
  { kind := .reset, node := Config.noNode, stamp := 0,
    arg0 := match why with | .powerOn => 1 | .resetPin => 2 | .softReset => 3, arg1 := 0 }

/-- The machine right after reset: a power-on reset and its initialization period are over, the RESET record is stored
(R161: EVQ_LEVEL 1), the straps were sampled low, and no command waits (DESIGN CHOICE, log entry 1: unsafe). -/
def State.reset : State :=
  { State.atReset .running AdrPins.reset [] with evq := { Evq.reset with records := [Record.ofReset .powerOn] } }

/-! ## Reasons to stop -/

/-- Why the block could stop with a fault. The manual gives every command an effect in every state, and this block
executes nothing that could go wrong, so there is no such reason: no command of the model faults (safe). -/
inductive Fault where
  deriving DecidableEq, Repr

/-- Why the model could refuse a command. -/
inductive Refusal where
  /-- raised by `exec` alone, for a command that has no meaning in the model yet; safe. No arm raises it now. -/
  | notModelled (mnemonic : String)
  deriving DecidableEq, Repr

end Sys2Proof.Machine
end

