-- ==== Sys2Proof/Machine/Flags.lean ====
section
/-! DEFINITION. The codes of the named states, the status bits computed from State, and the levels of the output pins. -/

namespace Sys2Proof.Machine

/-! ## Codes -/

/-- STATE codes (R38). -/
def NodeState.code : NodeState → Byte
  | .disabled => 0
  | .probing => 1
  | .online => 2
  | .suspect => 3
  | .offline => 4
  | .mismatch => 5

/-- Outcome codes (R10). -/
def LinkOutcome.code : LinkOutcome → Byte
  | .ok => 0
  | .noReply => 1
  | .checkError => 2
  | .seqError => 3
  | .busy => 4
  | .refused => 5

/-- LAST_OUTCOME, where 7 is NONE (R27). -/
def outcomeField : Option LinkOutcome → Byte
  | some o => o.code
  | none => 7

/-- Op codes (R5). -/
def LinkOp.code : LinkOp → BitVec 2
  | .cyclic => 0
  | .readReg => 1
  | .writeReg => 2
  | .ident => 3

/-- SCAN_STATE codes (R66). -/
def EngineState.code : EngineState → Byte
  | .stopped => 0
  | .waiting => 1
  | .cycling => 2
  | .draining => 3

/-- START_SOURCE codes (R66). -/
def StartSource.code : StartSource → Byte
  | .timer => 0
  | .sync => 1
  | .host => 2

/-- The START_SOURCE a byte names, if it is legal (R67). -/
def startSourceOf (b : Byte) : Option StartSource :=
  if b = 0 then some .timer else if b = 1 then some .sync else if b = 2 then some .host else none

/-- SYNC_EDGE codes (R66). -/
def edgeCode : Edge → Byte
  | .rising => 0
  | .falling => 1

/-- The SYNC_EDGE a byte names, if it is legal (R67). -/
def edgeOf (b : Byte) : Option Edge := if b = 0 then some .rising else if b = 1 then some .falling else none

/-- LINK_MODE codes (R88). -/
def LinkMode.code : LinkMode → Byte
  | .scanFirst => 0
  | .interleave => 1
  | .txnFirst => 2

/-- The LINK_MODE a byte names, if it is legal (R88). -/
def linkModeOf (b : Byte) : Option LinkMode :=
  if b = 0 then some .scanFirst else if b = 1 then some .interleave else if b = 2 then some .txnFirst else none

/-- EVQ_POLICY codes (R160). -/
def LossPolicy.code : LossPolicy → Byte
  | .keepOldest => 0
  | .keepNewest => 1

/-- The EVQ_POLICY a byte names, if it is legal (R160). -/
def lossPolicyOf (b : Byte) : Option LossPolicy :=
  if b = 0 then some .keepOldest else if b = 1 then some .keepNewest else none

/-- Kind codes (R149). -/
def EventKind.code : EventKind → Byte
  | .reset => 0
  | .inputChange => 1
  | .matchEvent => 2
  | .nodeState => 3
  | .nodeAlert => 4
  | .txnEnd => 5
  | .cycleDone => 6
  | .cycleOverrun => 7
  | .scanState => 8

/-- The kinds the kind-enable mask can disable (R149, R150). -/
def EventKind.maskable : EventKind → Bool
  | .reset => false
  | .txnEnd => false
  | _ => true

/-- CMD_STATUS codes (R170). -/
def CmdStatus.code : CmdStatus → Byte
  | .ok => 0
  | .refusedState => 1
  | .badArg => 2
  | .unknown => 3
  | .pending => 4

/-- Host error codes (R168). -/
def HostError.code : HostError → Byte
  | .writeRo => 1
  | .undefinedAddr => 2
  | .nodeLocked => 3
  | .profileLocked => 4
  | .scanLocked => 5
  | .evqLocked => 6
  | .txnLocked => 7
  | .badValue => 8
  | .configInvalid => 9
  | .badHandle => 10
  | .tooLate => 11
  | .cmdRefused => 12
  | .cmdUnknown => 13

/-- HOST_ERR_CODE, where 0 is none (R168). -/
def errField : Option HostError → Byte
  | some e => e.code
  | none => 0

/-- STATE codes of a transaction entry (R129). -/
def TxnState.code : TxnState → Byte
  | .free => 0
  | .reserved => 1
  | .queued => 2
  | .active => 3
  | .done => 4
  | .failed => 5
  | .cancelled => 6

/-- A terminal state of an entry (R140). -/
def TxnState.terminal : TxnState → Bool
  | .done => true
  | .failed => true
  | .cancelled => true
  | _ => false

/-- RESULT codes (R138). -/
def TxnResult.code : TxnResult → Byte
  | .link o => o.code
  | .nodeUnavailable => 6
  | .cancelled => 7

/-- RESULT, where 0xFF is none (R129). -/
def resultField : Option TxnResult → Byte
  | some r => r.code
  | none => Config.noHandle

/-- A node index as the node field of a record (R148). -/
def nodeByte (n : NodeIx) : Byte := byteOf n.val

/-- One bit as a byte: 1 in place `i` when `b`. -/
def bitAt (b : Bool) (i : Nat) : Byte := if b then BitVec.twoPow 8 i else 0

/-! ## The node status block -/

/-- Byte `o` of a node's status block (R26). -/
def Node.statusByte (x : Node) (o : ByteIx) : Byte :=
  match o with
  | 0 => x.state.code
  | 1 => byteOf (x.failCount % 16) ||| bitAt x.seq 4 ||| bitAt x.alert 5 ||| bitAt x.matchState 6
  | 2 => byteOf x.reprobe
  | 3 => byteOf x.inputAge
  | 4 => x.lastStatus
  | 5 => outcomeField x.lastOutcome
  | 6 => x.reportedType
  | 7 => x.reportedOut ++ x.reportedIn

/-- REFRESH_ON_WRITE (R21). -/
def Node.refreshOnWrite (x : Node) : Bool := x.options.getLsbD 0

/-- MATCH_ENABLE (R21). -/
def Node.matchEnable (x : Node) : Bool := x.options.getLsbD 1

/-- MATCH_MODE is BOTH (R21). -/
def Node.matchBoth (x : Node) : Bool := x.options.getLsbD 2

/-- MATCH_VALUE (R21, R25). -/
def Node.matchValue (x : Node) : Half := joinBytes x.matchValueHi x.matchValueLo

/-- MATCH_MASK (R21, R25). -/
def Node.matchMask (x : Node) : Half := joinBytes x.matchMaskHi x.matchMaskLo

/-- An input byte as the host reads it: 0x00 from IN_LEN on (R109). -/
def Node.visibleInput (x : Node) (i : ByteIx) : Byte := if i.val < x.inLen.toNat then x.input[i] else 0

/-! ## Slots -/

/-- ENABLE of a slot (R61). -/
def Slot.enabled (s : Slot) : Bool := s.byte0.getLsbD 7

/-- NODE of a slot (R61). -/
def Slot.node (s : Slot) : NodeIx := (s.byte0.extractLsb' 0 4).toFin

/-- The divisor code of a slot byte 1 (R61). -/
def divCode (b : Byte) : Nat := (b.extractLsb' 4 3).toNat

/-- PHASE of a slot byte 1 (R61). -/
def phaseOf (b : Byte) : Nat := (b.extractLsb' 0 4).toNat

/-- The divisor of a slot: 1, 2, 4, 8 or 16 (R61). -/
def Slot.divisor (s : Slot) : Nat := 2 ^ divCode s.byte1

/-- PHASE of a slot (R61). -/
def Slot.phase (s : Slot) : Nat := phaseOf s.byte1

/-- A byte 0 the host may write (R62). -/
def slotByte0Legal (b : Byte) : Bool := b.extractLsb' 4 3 == 0

/-- A byte 1 the host may write (R62). -/
def slotByte1Legal (b : Byte) : Bool := !b.getLsbD 7 && divCode b ≤ 4 && phaseOf b < 2 ^ divCode b

/-! ## Queue and attention -/

/-- An OVERFLOW report is pending (R156). -/
def Evq.reportPending (q : Evq) : Bool :=
  match q.policy with
  | .keepOldest => q.overflowed
  | .keepNewest => 0 < q.lost

/-- EVQ_STATUS (R156). -/
def Evq.statusByte (q : Evq) : Byte := bitAt q.reportPending 0 ||| bitAt q.overflowed 1

/-- The head record is open (R157). -/
def Evq.headOpen (q : Evq) : Bool :=
  match q.reading with
  | some r => r.item == .stored
  | none => false

/-- The cause EVQ_READY (R165). -/
def State.evqReady (s : State) : Bool :=
  s.attn.level.toNat ≤ s.evq.records.length || s.evq.reportPending ||
    (s.attn.delay != 0 && !s.evq.records.isEmpty && s.attn.delay.toNat ≤ s.evq.headAge)

/-- ATTN# is driven low (R167). -/
def State.attnLow (s : State) : Bool :=
  s.power == .running && ((s.evqReady && s.attn.mask.getLsbD 0) || (s.err.flag && s.attn.mask.getLsbD 1))

/-- ATTN_CAUSE (R164, R167). -/
def State.attnCause (s : State) : Byte := bitAt s.evqReady 0 ||| bitAt s.err.flag 1 ||| bitAt s.attnLow 7

/-- HOST_ERR_STATUS (R168). -/
def ErrCapture.statusByte (e : ErrCapture) : Byte := bitAt e.flag 0 ||| bitAt e.multiple 1

/-! ## The link lines -/

/-- The exchange in flight, if there is one (R2). -/
def Link.exchange (l : Link) : Option Exchange :=
  match l.work with
  | some w => match w.phase with
    | .inFlight x => some x
    | .retryPending _ => none
  | none => none

/-- SELn is driven low (R1). -/
def State.selectLow (s : State) (n : Fin 4) : Bool :=
  match s.link.exchange with
  | some x => x.selected && x.segment == byteOf n.val
  | none => false

/-- SCK stands high at rest in a MODE (R4). -/
def sckIdleHigh (mode : Byte) : Bool := mode == 2 || mode == 3

/-- Bits are sampled on the rising edge of SCK in a MODE (R4). -/
def samplesOnRising (mode : Byte) : Bool := mode == 0 || mode == 3

/-- The level SCK stands at between exchanges, and before the first clock edge of one (R1). -/
def State.sckRest (s : State) : Bool := sckIdleHigh s.link.sckMode

/-- The link is idle: the Link Controller holds no work item (R86). -/
def Link.idle (l : Link) : Bool := l.work.isNone

/-- A retry is pending (R18). -/
def Link.retryWaits (l : Link) : Bool :=
  match l.work with
  | some w => match w.phase with
    | .inFlight _ => false
    | .retryPending _ => true
  | none => false

end Sys2Proof.Machine
end

