-- ==== Sys2Proof/Machine/Operands.lean ====
section
/-! DEFINITION. The register map: what each address of the window names (R175, section 11.9). -/

namespace Sys2Proof.Machine

/-- The fields of a timing profile (R13). -/
inductive ProfileField where
  | rate
  | mode
  | setup
  | hold
  | byteGap
  | turn
  deriving DecidableEq, Repr

/-- The configuration bytes of a node entry (R21). -/
inductive NodeField where
  | segment
  | address
  | profile
  | outLen
  | inLen
  | expectType
  | options
  | matchValueHi
  | matchValueLo
  | matchMaskHi
  | matchMaskLo
  deriving DecidableEq, Repr

/-- The bytes of a transaction entry (R129). -/
inductive TxnField where
  | state
  | gen
  | result
  | attempts
  | replyStatus
  | node
  | op
  | regIndex
  | count
  | wdata (i : ByteIx)
  | rdata (i : ByteIx)
  deriving DecidableEq, Repr

/-- What an address of the window names. -/
inductive Reg where
  | deviceId
  | revision
  | cmdArg
  | cmd
  | cmdStatus
  | startSource
  | syncEdge
  | linkMode
  | periodHigh
  | periodLow
  | schedLen
  | retryLimit
  | offlineThreshold
  | reprobeInterval
  | scanState
  | cycleHigh
  | cycleLow
  | overrunCount
  | evqData
  | evqLevel
  | lostHigh
  | lostLow
  | evqPolicy
  | evqStatus
  | kindHigh
  | kindLow
  | attnLevel
  | attnDelay
  | attnMask
  | attnCause
  | attnHeadAge
  | errStatus
  | errCode
  | errAddrHigh
  | errAddrLow
  | errClear
  | txnAlloc
  | txnSubmit
  | txnCancel
  | txnRelease
  | txnQueued
  | profile (p : ProfileIx) (f : ProfileField)
  | nodeConfig (n : NodeIx) (f : NodeField)
  | nodeStatus (n : NodeIx) (o : ByteIx)
  | slot (k : SlotIx) (second : Bool)
  | output (n : NodeIx) (i : ByteIx)
  | input (n : NodeIx) (i : ByteIx)
  | rise (n : NodeIx) (i : ByteIx)
  | fall (n : NodeIx) (i : ByteIx)
  | txn (e : TxnIx) (f : TxnField)
  | undefined
  deriving DecidableEq, Repr

/-- Addresses 0x0000 to 0x003F, eight to a line, as sections 11.9, R66, R131, R161, R164 and R168 lay them out. -/
def lowRegs : List Reg :=
  List.flatten (α := Reg) [
    [.deviceId, .revision, .undefined, .undefined, .undefined, .undefined, .undefined, .undefined],
    [.cmdArg, .cmd, .cmdStatus, .undefined, .undefined, .undefined, .undefined, .undefined],
    [.startSource, .syncEdge, .linkMode, .periodHigh, .periodLow, .schedLen, .retryLimit, .offlineThreshold],
    [.reprobeInterval, .scanState, .cycleHigh, .cycleLow, .overrunCount, .undefined, .undefined, .undefined],
    [.evqData, .evqLevel, .lostHigh, .lostLow, .evqPolicy, .evqStatus, .kindHigh, .kindLow],
    [.attnLevel, .attnDelay, .attnMask, .attnCause, .attnHeadAge, .undefined, .undefined, .undefined],
    [.errStatus, .errCode, .errAddrHigh, .errAddrLow, .errClear, .undefined, .undefined, .undefined],
    [.txnAlloc, .txnSubmit, .txnCancel, .txnRelease, .txnQueued, .undefined, .undefined, .undefined]]

/-- The byte at an offset of a profile block (R13). -/
def profileField : Nat → Option ProfileField
  | 0 => some .rate
  | 1 => some .mode
  | 2 => some .setup
  | 3 => some .hold
  | 4 => some .byteGap
  | 5 => some .turn
  | _ => none

/-- The byte at an offset of a node configuration block (R21). -/
def nodeField : Nat → Option NodeField
  | 0 => some .segment
  | 1 => some .address
  | 2 => some .profile
  | 3 => some .outLen
  | 4 => some .inLen
  | 5 => some .expectType
  | 8 => some .options
  | 10 => some .matchValueHi
  | 11 => some .matchValueLo
  | 12 => some .matchMaskHi
  | 13 => some .matchMaskLo
  | _ => none

/-- The byte at an offset of a transaction entry (R129). -/
def txnField (o : Nat) : Option TxnField :=
  if o = 0x00 then some .state
  else if o = 0x01 then some .gen
  else if o = 0x02 then some .result
  else if o = 0x03 then some .attempts
  else if o = 0x04 then some .replyStatus
  else if o = 0x08 then some .node
  else if o = 0x09 then some .op
  else if o = 0x0A then some .regIndex
  else if o = 0x0B then some .count
  else if 0x10 ≤ o ∧ o < 0x18 then some (.wdata (Fin.ofNat 8 o))
  else if 0x18 ≤ o ∧ o < 0x20 then some (.rdata (Fin.ofNat 8 o))
  else none

/-- What the address `a` names, by the areas of the register map (section 11.9). -/
def regAt (addr : Addr) : Reg :=
  let a := addr.toNat
  if a < 0x040 then lowRegs.getD a .undefined
  else if a < 0x060 then
    match profileField (a % 8) with
    | some f => .profile (Fin.ofNat 4 ((a - 0x040) / 8)) f
    | none => .undefined
  else if a < 0x100 then .undefined
  else if a < 0x200 then
    match nodeField (a % 16) with
    | some f => .nodeConfig (Fin.ofNat 16 ((a - 0x100) / 16)) f
    | none => .undefined
  else if a < 0x280 then .nodeStatus (Fin.ofNat 16 ((a - 0x200) / 8)) (Fin.ofNat 8 a)
  else if a < 0x2C0 then .slot (Fin.ofNat 32 ((a - 0x280) / 2)) (a % 2 == 1)
  else if a < 0x300 then .undefined
  else if a < 0x380 then .output (Fin.ofNat 16 ((a - 0x300) / 8)) (Fin.ofNat 8 a)
  else if a < 0x400 then .undefined
  else if a < 0x480 then .input (Fin.ofNat 16 ((a - 0x400) / 8)) (Fin.ofNat 8 a)
  else if a < 0x500 then .undefined
  else if a < 0x600 then
    if a % 16 < 8 then .rise (Fin.ofNat 16 ((a - 0x500) / 16)) (Fin.ofNat 8 a)
    else .fall (Fin.ofNat 16 ((a - 0x500) / 16)) (Fin.ofNat 8 a)
  else if a < 0x700 then
    match txnField (a % 32) with
    | some f => .txn (Fin.ofNat 8 ((a - 0x600) / 32)) f
    | none => .undefined
  else .undefined

/-- The three port addresses, where the pointer does not advance (R174). -/
def isPort (a : Addr) : Bool := a == 0x009 || a == 0x020 || a == 0x038

/-- The pointer after a data byte at `a` (R174). -/
def nextPointer (a : Addr) : Addr := if isPort a then a else a + 1

/-- The position of output byte `i` of node `n` in the output window, which keys the staging buffer (R101, R103). -/
def outputPos (n : NodeIx) (i : ByteIx) : Nat := 8 * n.val + i.val

/-- The entry a handle's bits 2–0 name (R130). -/
def entryOf (handle : Byte) : TxnIx := (handle.extractLsb' 0 3).toFin

/-- The handle of entry `e` at generation `gen` (R130). -/
def handleOf (gen : BitVec 4) (e : TxnIx) : Byte := gen ++ BitVec.ofNat 4 e.val

end Sys2Proof.Machine
end

