-- ==== Sys2Proof/Machine/Ops.lean ====
section
/-! DEFINITION. The operations every command is built from: single entries of the tables, the staging buffer, the host
error capture, CMD_STATUS and the production of an event. -/

namespace Sys2Proof.Machine

/-! ## Entries -/

/-- Node entry `n`. -/
def State.node (s : State) (n : NodeIx) : Node := s.nodes[n]

/-- Node entry `n` replaced. -/
def State.setNode (s : State) (n : NodeIx) (x : Node) : State := { s with nodes := s.nodes.set n x }

/-- Node entry `n` through `f`. -/
def State.modNode (s : State) (n : NodeIx) (f : Node → Node) : State := s.setNode n (f (s.node n))

/-- Every node entry through `f`. -/
def State.mapNodes (s : State) (f : Node → Node) : State := { s with nodes := tabMap f s.nodes }

/-- Transaction entry `e`. -/
def State.txn (s : State) (e : TxnIx) : Txn := s.txns[e]

/-- Transaction entry `e` replaced. -/
def State.setTxn (s : State) (e : TxnIx) (x : Txn) : State := { s with txns := s.txns.set e x }

/-- Transaction entry `e` through `f`. -/
def State.modTxn (s : State) (e : TxnIx) (f : Txn → Txn) : State := s.setTxn e (f (s.txn e))

/-- The scan engine through `f`. -/
def State.modEngine (s : State) (f : Engine → Engine) : State := { s with engine := f s.engine }

/-- The Link Controller through `f`. -/
def State.modLink (s : State) (f : Link → Link) : State := { s with link := f s.link }

/-- The event queue through `f`. -/
def State.modEvq (s : State) (f : Evq → Evq) : State := { s with evq := f s.evq }

/-- The attention registers through `f`. -/
def State.modAttn (s : State) (f : Attn → Attn) : State := { s with attn := f s.attn }

/-- The host port through `f`. -/
def State.modPort (s : State) (f : Port → Port) : State := { s with port := f s.port }

/-- The profile a node's exchanges use (R13, R21). -/
def State.profileOf (s : State) (x : Node) : Profile := s.link.profiles[Fin.ofNat 4 x.profile.toNat]

/-! ## The staging buffer (R103) -/

/-- The staged byte at a position, if its mark is set. -/
def Memory.read : Memory → Nat → Option Byte
  | [], _ => none
  | (k, b) :: rest, a => if k = a then some b else Memory.read rest a

/-- A byte staged at a position: the list stays in rising order of position, one cell for a position. -/
def Memory.write : Memory → Nat → Byte → Memory
  | [], a, v => [(a, v)]
  | (k, b) :: rest, a, v =>
    if a < k then (a, v) :: (k, b) :: rest
    else if a = k then (a, v) :: rest
    else (k, b) :: Memory.write rest a v

/-- The canonical form: positions strictly rising. An unlisted position is unstaged, so no cell can repeat what an
unlisted one reads as. -/
def Memory.wf : Memory → Bool
  | [] => true
  | [_] => true
  | (k, _) :: (k', b') :: rest => decide (k < k') && Memory.wf ((k', b') :: rest)

/-! ## Host errors and CMD_STATUS -/

/-- An error reaches the capture (R169): the first is kept, later ones set MULTIPLE. -/
def ErrCapture.take (c : ErrCapture) (e : HostError) (a : Addr) : ErrCapture :=
  if c.flag then { c with multiple := true } else { c with flag := true, code := some e, addr := a }

/-- A host error raised at an address (R169). -/
def State.raise (s : State) (e : HostError) (a : Addr) : State := { s with err := s.err.take e a }

/-- A host error raised for the register at the pointer (R169). -/
def State.raiseHere (s : State) (e : HostError) : State := s.raise e s.port.pointer

/-- A command's answer (R170): it is the most recent command, so no earlier pending one still owns CMD_STATUS (R28; DEDUCED,
log entry 22: unsafe). -/
def State.answer (s : State) (c : CmdStatus) : State := { s with cmd := { s.cmd with status := c, awaited := none } }

/-- The answer PENDING, to be completed by `who` (R28). -/
def State.answerPending (s : State) (who : Awaited) : State :=
  { s with cmd := { s.cmd with status := .pending, awaited := some who } }

/-- A pending command's completion: CMD_STATUS becomes OK if no other command has been taken since (R28). -/
def State.completePending (s : State) (who : Awaited) : State :=
  if s.cmd.awaited = some who then { s with cmd := { s.cmd with status := .ok, awaited := none } } else s

/-- A command refused for the state of its target (R28, R170). -/
def State.refuseCommand (s : State) : State := (s.answer .refusedState).raise .cmdRefused Config.cmdAddr

/-! ## The event queue's storage -/

/-- The head-age timer at 0 (R166). -/
def Evq.restartAge (q : Evq) : Evq := { q with headAge := 0, headSub := 0 }

/-- One more lost event; 65535 stays 65535 (R155). -/
def Evq.lose (q : Evq) : Evq := { q with lost := succUpTo Config.lostMax q.lost }

/-- A stored INPUT_CHANGE record of the same node as `ev` (R152). -/
def Record.mergeable (r ev : Record) : Bool := r.kind == .inputChange && r.node == ev.node

/-- A new INPUT_CHANGE folded into a stored one (R152). -/
def Record.merge (r ev : Record) : Record :=
  { r with arg0 := r.arg0 ||| ev.arg0, arg1 := byteOf (succUpTo 255 r.arg1.toNat), stamp := ev.stamp }

/-- The fold of `ev` into the last mergeable record of a list, if there is one (R152). -/
def mergeLast (ev : Record) : List Record → Option (List Record)
  | [] => none
  | r :: rest =>
    match mergeLast ev rest with
    | some rest' => some (r :: rest')
    | none => if r.mergeable ev then some (r.merge ev :: rest) else none

/-- The records after a merge of `ev`, if the list holds a merge target; an open head is none (R152). -/
def Evq.mergeTarget (q : Evq) (ev : Record) : Option (List Record) :=
  if ev.kind = .inputChange then
    match q.headOpen, q.records with
    | true, head :: rest => (mergeLast ev rest).map (head :: ·)
    | _, records => mergeLast ev records
  else none

/-- A record appended at the tail; in an empty list it becomes the head (R151, R166). -/
def Evq.append (q : Evq) (ev : Record) : Evq :=
  let q' := { q with records := q.records ++ [ev] }
  if q.records.isEmpty then q'.restartAge else q'

/-- The oldest record that is not open discarded, to make room (R154). -/
def Evq.discardOldest (q : Evq) : Evq :=
  match q.headOpen, q.records with
  | true, head :: _ :: rest => { q with records := head :: rest }
  | true, _ => q
  | false, _ :: rest => { q with records := rest }.restartAge
  | false, [] => q

/-- The disposal of an event that passed the kind-enable mask (R151, R153, R154). -/
def Evq.dispose (q : Evq) (ev : Record) : Evq :=
  if q.policy = .keepOldest ∧ q.overflowed then q.lose
  else
    match q.mergeTarget ev with
    | some records => { q with records := records }
    | none =>
      if q.records.length < Config.queueDepth then q.append ev
      else
        match q.policy with
        | .keepOldest => { q.lose with overflowed := true }
        | .keepNewest => q.lose.discardOldest.append ev

/-- A kind passes the kind-enable mask (R150). -/
def Evq.passes (q : Evq) (k : EventKind) : Bool := !k.maskable || q.kindEnable.getLsbD k.code.toNat

/-- An event is produced, stamped with the cycle number of the moment (R148, R150, R151). -/
def State.emit (s : State) (k : EventKind) (node arg0 arg1 : Byte) : State :=
  if s.evq.passes k then
    s.modEvq (·.dispose { kind := k, node := node, stamp := s.engine.cycle, arg0 := arg0, arg1 := arg1 })
  else s

end Sys2Proof.Machine
end

