-- ==== Sys2Proof/Machine/Detector.lean ====
section
/-! DEFINITION. The Image Store's store of a reply and the Change Detector's evaluation of it (R108, R118 to R123). -/

namespace Sys2Proof.Machine

/-- An input image from a reply payload: the bytes beyond it are 0x00 (R108). -/
def imageOf (payload : List Byte) : Vector Byte 8 := tabulate 8 fun i => payload.getD i.val 0

/-- A byte moved in a direction its masks select (R119). -/
def byteChanged (old new rise fall : Byte) : Bool := (~~~old &&& new &&& rise) ||| (old &&& ~~~new &&& fall) != 0

/-- The changed-byte mask of an old and a new image under the masks (R119). -/
def changedMask (old new rise fall : Vector Byte 8) : Byte :=
  let bit (i : ByteIx) : Byte := bitAt (byteChanged old[i] new[i] rise[i] fall[i]) i.val
  bit 0 ||| bit 1 ||| bit 2 ||| bit 3 ||| bit 4 ||| bit 5 ||| bit 6 ||| bit 7

/-- The match word of an input image (R122). -/
def matchWord (image : Vector Byte 8) : Half := joinBytes image[0] image[1]

/-- The match word agrees with MATCH_VALUE under MATCH_MASK (R122). -/
def Node.wordMatches (x : Node) (image : Vector Byte 8) : Bool :=
  matchWord image &&& x.matchMask == x.matchValue &&& x.matchMask

/-- Whether a transition of MATCH_STATE is reported (R123). -/
def matchReported (both before after : Bool) : Bool := (!before && after) || (both && before && !after)

/-- Steps 1 to 3 of the evaluation at a store: baseline or change (R118, R120, R121). `old` is the image the store
replaced. -/
def State.detectChange (s : State) (n : NodeIx) (old : Vector Byte 8) : State :=
  let x := s.node n
  if x.baseline then s.modNode n fun y => { y with baseline := false }
  else
    let m := changedMask old x.input x.rise x.fall
    if m = 0 then s else s.emit .inputChange (nodeByte n) m 1

/-- Step 4 of the evaluation at a store: the match (R118, R122 to R124). -/
def State.detectMatch (s : State) (n : NodeIx) : State :=
  let x := s.node n
  if x.matchEnable then
    let now := x.wordMatches x.input
    let s' := s.modNode n fun y => { y with matchState := now }
    if matchReported x.matchBoth x.matchState now then
      s'.emit .matchEvent (nodeByte n) (bitAt now 0) x.input[0]
    else s'
  else s.modNode n fun y => { y with matchState := false }

/-- The store of an OK CYCLIC reply and its evaluation (R108, R118). -/
def State.storeInput (s : State) (n : NodeIx) (payload : List Byte) : State :=
  let old := (s.node n).input
  ((s.modNode n fun y => { y with input := imageOf payload }).detectChange n old).detectMatch n

end Sys2Proof.Machine
end

