-- ==== Sys2Proof/Machine/Frame.lean ====
section
/-! DEFINITION. What crosses the scan link: request frames, the check byte, the classification of a reply, and the
length, duration and line levels of an exchange. -/

namespace Sys2Proof.Machine

/-! ## Check byte and request (R5 to R7) -/

/-- One shift of the check byte's working value (R7, step 3). -/
def crcShift (w : Byte) : Byte := if w.getLsbD 7 then (w <<< 1) ^^^ Config.checkPoly else w <<< 1

/-- One covered byte (R7, steps 2 and 3). -/
def crcByte (w b : Byte) : Byte :=
  crcShift (crcShift (crcShift (crcShift (crcShift (crcShift (crcShift (crcShift (w ^^^ b))))))))

/-- The check byte over the covered bytes (R7). -/
def checkByte (covered : List Byte) : Byte := covered.foldl crcByte Config.checkSeed

/-- The header byte H (R5). -/
def Exchange.header (x : Exchange) : Byte :=
  (x.address.extractLsb' 0 5 ++ x.op.code) ++ BitVec.ofBool x.toggle

/-- The request bytes of an exchange, check byte and all (R3, R5 to R7). -/
def Exchange.request (x : Exchange) : List Byte :=
  let covered := x.header :: x.payload
  covered ++ [checkByte covered]

/-! ## Replies (R8 to R11) -/

/-- The 1 + Q + 1 reply bytes the controller assembles: what nodes drove, and ones where none did (R8; DEDUCED, log entry
12: safe). -/
def Exchange.replyBytes (x : Exchange) (driven : List Byte) : List Byte :=
  (driven ++ List.replicate (x.replyLen + 2) Config.undriven).take (x.replyLen + 2)

/-- The status byte S of assembled reply bytes (R9). -/
def replyStatus (reply : List Byte) : Byte := reply.headD Config.undriven

/-- The reply payload (R8). -/
def replyPayload (reply : List Byte) : List Byte := reply.tail.dropLast

/-- The received check byte (R7). -/
def replyCheck (reply : List Byte) : Byte := reply.getLastD Config.undriven

/-- The outcome of assembled reply bytes against the toggle sent: the first condition of R10 that holds (DEDUCED, log entry
23: unsafe). -/
def classify (toggle : Bool) (reply : List Byte) : LinkOutcome :=
  let st := replyStatus reply
  if st.getLsbD 7 then .noReply
  else if replyCheck reply != checkByte reply.dropLast then .checkError
  else if st.getLsbD 5 != toggle then .seqError
  else if st.getLsbD 3 then .busy
  else if !st.getLsbD 6 then .refused
  else .ok

/-- The outcomes whose status byte is delivered (R9, R11). -/
def LinkOutcome.deliversStatus : LinkOutcome → Bool
  | .ok => true
  | .busy => true
  | .refused => true
  | _ => false

/-- The outcomes that can be retried (R17). -/
def LinkOutcome.retryable : LinkOutcome → Bool
  | .ok => false
  | .refused => false
  | _ => true

/-- The outcomes that count as a failure for supervision and for the cycle's counts (R45, R51, R76). -/
def LinkOutcome.failure : LinkOutcome → Bool
  | .ok => false
  | .busy => false
  | _ => true

/-- The completion record of an attempt (R11). -/
def Exchange.complete (x : Exchange) (attempt : Nat) (driven : List Byte) : Completion :=
  let reply := x.replyBytes driven
  let o := classify x.toggle reply
  { node := x.node, op := x.op, toggle := x.toggle, attempt := attempt, outcome := o,
    status := if o.deliversStatus then some (replyStatus reply) else none,
    payload := if o = .ok then replyPayload reply else [] }

/-! ## Lengths and durations (R15) -/

/-- The bytes of an exchange: 1 + P + 1 + TURN + 1 + Q + 1. -/
def Exchange.byteCount (x : Exchange) : Nat := 1 + x.payload.length + 1 + x.profile.turn.toNat + 1 + x.replyLen + 1

/-- One bit time in units of 0.125 µs. -/
def Profile.bitTime (p : Profile) : Nat := 2 ^ p.rate.toNat

/-- From select assertion to select release, in units of 0.125 µs. -/
def Exchange.duration (x : Exchange) : Nat :=
  x.byteCount * 8 * x.profile.bitTime + (x.byteCount - 1) * x.profile.byteGap.toNat * x.profile.bitTime
    + x.profile.setup.toNat * 4 + x.profile.hold.toNat * 4

/-! ## Line levels (R3, R4) -/

/-- The levels of SCK and SDO over half a bit time. -/
structure HalfBit where
  sck : Bool
  sdo : Bool
  deriving DecidableEq, Repr

/-- The clock leads with the sampling edge: MODE 0 and MODE 2 (R4). -/
def leadingSample (mode : Byte) : Bool := samplesOnRising mode != sckIdleHigh mode

/-- The two halves of one bit: a node samples the bit on the sampling edge, and the bit stands until the edge opposite
to it (R4). R15 counts a whole bit time for every bit while SETUP ends at the first edge and HOLD begins at the last
(R3, R13), so half a bit time is left over in each exchange: it stands before the first edge in MODE 0 and MODE 2 and after
the last edge in MODE 1 and MODE 3 (DESIGN CHOICE, log entry 26: unsafe). -/
def bitHalves (mode : Byte) (bit : Bool) : List HalfBit :=
  let idle := sckIdleHigh mode
  if leadingSample mode then [⟨idle, bit⟩, ⟨!idle, bit⟩] else [⟨!idle, bit⟩, ⟨idle, bit⟩]

/-- The eight bits of a byte, most significant first (R3). -/
def byteHalves (mode : Byte) (b : Byte) : List HalfBit :=
  [7, 6, 5, 4, 3, 2, 1, 0].flatMap fun i => bitHalves mode (b.getLsbD i)

/-- The gap after a byte: SCK at its idle level for BYTE_GAP bit times, SDO at `level` (R3, R4). -/
def gapHalves (p : Profile) (level : Bool) : List HalfBit :=
  List.replicate (2 * p.byteGap.toNat) ⟨sckIdleHigh p.mode, level⟩

/-- Bytes one after the other with the gaps between them; `hold` gives SDO's level in the gap that follows a byte (R3). In
MODE 0 and MODE 2 the edge that ends the last bit of a byte opens the gap, in which SDO still holds that bit (R4), so the
next bit is placed where the gap ends, on no edge of SCK (DESIGN CHOICE, log entry 27: unsafe). -/
def bytesHalves (p : Profile) (hold : Byte → Bool) : List Byte → List HalfBit
  | [] => []
  | [b] => byteHalves p.mode b
  | b :: rest => byteHalves p.mode b ++ gapHalves p (hold b) ++ bytesHalves p hold rest

/-- The gap between the check byte of the request and the first turnaround byte. SDO goes high on the changing edge that
ends the last bit of the check byte (R4): in MODE 0 and MODE 2 that edge opens the gap; in MODE 1 and MODE 3 it is the
first edge of the turnaround, so SDO holds the bit through the gap. -/
def Exchange.gapAfterRequest (x : Exchange) : List HalfBit :=
  gapHalves x.profile (leadingSample x.profile.mode || (x.request.getLastD 0).getLsbD 0)

/-- SCK and SDO between the SETUP and the HOLD time of an exchange, half a bit time at a time: the request with its
last bit held in gaps, then SDO high through turnaround and reply (R3, R4, R8). -/
def Exchange.waveform (x : Exchange) : List HalfBit :=
  bytesHalves x.profile (fun b => b.getLsbD 0) x.request
    ++ x.gapAfterRequest
    ++ bytesHalves x.profile (fun _ => true)
        (List.replicate (x.profile.turn.toNat + 1 + x.replyLen + 1) 0xFF)

/-- Levels of SCK and SDO that stand for a time, in units of 1/16 µs: half a bit time at RATE 0. -/
structure LineSpan where
  lines    : HalfBit
  duration : Nat
  deriving DecidableEq, Repr

/-- SDO from select assertion to the first clock edge: the first bit of H (R4). -/
def Exchange.sdoAtSelect (x : Exchange) : Bool := x.header.getLsbD 7

/-- SCK and SDO from select assertion to select release: SETUP with the first bit of H on SDO, the clocked bytes, and HOLD
with SDO high (R3, R4, R15). -/
def Exchange.signal (x : Exchange) : List LineSpan :=
  let idle := sckIdleHigh x.profile.mode
  ⟨⟨idle, x.sdoAtSelect⟩, 8 * x.profile.setup.toNat⟩
    :: x.waveform.map (fun h => ⟨h, x.profile.bitTime⟩)
    ++ [⟨⟨idle, true⟩, 8 * x.profile.hold.toNat⟩]

/-- SDO while no clock edge of an exchange has come: high with no exchange in flight, at reset, after an abort and until
the select line goes low (R1, R20), and then the first bit of H (R4). -/
def State.sdoRest (s : State) : Bool :=
  match s.link.exchange with
  | some x => if x.selected then x.sdoAtSelect else true
  | none => true

end Sys2Proof.Machine
end

