-- ==== Sys2Proof/Machine/Supervision.lean ====
section
/-! DEFINITION. Node Supervision: service classes, the evaluation of final outcomes, the effects of the node commands
and the cycle-start duties (R33, R31, R38 to R58). -/

namespace Sys2Proof.Machine

/-- The service classes (R39). -/
inductive ServiceClass where
  | cyclic
  | probe
  | none
  deriving DecidableEq, Repr

/-- The service class of a node (R39). -/
def Node.serviceClass (x : Node) : ServiceClass :=
  match x.state with
  | .online => .cyclic
  | .suspect => .cyclic
  | .probing => .probe
  | .offline => if x.reprobe = 0 then .probe else .none
  | .disabled => .none
  | .mismatch => .none

/-- A change of STATE and its NODE_STATE event; a state that stays gives none (R59). -/
def State.enterState (s : State) (n : NodeIx) (new : NodeState) : State :=
  let old := (s.node n).state
  if old = new then s
  else (s.modNode n fun x => { x with state := new }).emit .nodeState (nodeByte n) new.code old.code

/-- LAST_OUTCOME and LAST_STATUS recorded (R42). -/
def State.recordOutcome (s : State) (n : NodeIx) (r : Completion) : State :=
  s.modNode n fun x => { x with lastOutcome := some r.outcome, lastStatus := r.status.getD x.lastStatus }

/-- The alert level compared with bit 4 of a delivered status byte (R43). -/
def State.compareAlert (s : State) (n : NodeIx) (r : Completion) : State :=
  match r.status with
  | none => s
  | some st =>
    let bit := st.getLsbD 4
    if bit = (s.node n).alert then s
    else (s.modNode n fun x => { x with alert := bit }).emit .nodeAlert (nodeByte n) st (bitAt bit 0)

/-- Entry to OFFLINE (R47). -/
def State.enterOffline (s : State) (n : NodeIx) : State :=
  (s.modNode n fun x => { x with reprobe := s.engine.reprobeInterval.toNat, matchState := false }).enterState n .offline

/-- A failed CYCLIC work item (R45). -/
def State.cyclicFailed (s : State) (n : NodeIx) : State :=
  let s := s.modNode n fun x => { x with failCount := succUpTo 15 x.failCount }
  let x := s.node n
  if s.engine.offlineThreshold.toNat ≤ x.failCount ∧ x.state ≠ .offline then s.enterOffline n
  else if x.state = .online then s.enterState n .suspect
  else s

/-- An OK CYCLIC work item after its store (R44). -/
def State.cyclicOk (s : State) (n : NodeIx) : State :=
  let s := s.modNode n fun x => { x with inputAge := 0, failCount := 0 }
  if (s.node n).state = .suspect then s.enterState n .online else s

/-- A failed probe (R51). -/
def State.probeFailed (s : State) (n : NodeIx) : State :=
  let s := s.modNode n fun x => { x with failCount := succUpTo 15 x.failCount }
  let x := s.node n
  if x.state = .offline then s.modNode n fun y => { y with reprobe := s.engine.reprobeInterval.toNat }
  else if s.engine.offlineThreshold.toNat ≤ x.failCount then s.enterOffline n
  else s

/-- A reported length saturated at 15 (R27). -/
def saturate4 (b : Byte) : BitVec 4 := if b.toNat < 15 then b.extractLsb' 0 4 else 15

/-- The REPORTED fields from the three IDENT reply bytes (R27, R49, R56). -/
def State.report (s : State) (n : NodeIx) (payload : List Byte) : State :=
  s.modNode n fun x => { x with
    reportedType := payload.getD 0 0, reportedOut := saturate4 (payload.getD 1 0),
    reportedIn := saturate4 (payload.getD 2 0) }

/-- An IDENT reply agrees with the entry (R49). -/
def Node.agrees (x : Node) (payload : List Byte) : Bool :=
  (x.expectType == 0 || x.expectType == payload.getD 0 0) && payload.getD 1 0 == x.outLen
    && payload.getD 2 0 == x.inLen

/-- An OK probe (R49, R50, R55). -/
def State.probeOk (s : State) (n : NodeIx) (payload : List Byte) : State :=
  let agrees := (s.node n).agrees payload
  let s := (s.report n payload).modNode n fun x => { x with failCount := 0, reprobe := 0 }
  if agrees then (s.modNode n fun x => { x with baseline := true }).enterState n .online
  else (s.modNode n fun x => { x with matchState := false, inputAge := 255 }).enterState n .mismatch

/-- The evaluation of a final CYCLIC outcome (R41, R44 to R46). -/
def State.evaluateCyclic (s : State) (n : NodeIx) (r : Completion) : State :=
  if r.outcome = .ok then (s.storeInput n r.payload).cyclicOk n
  else if r.outcome.failure then s.cyclicFailed n
  else s

/-- The evaluation of a final probe outcome (R41, R49 to R52). -/
def State.evaluateProbe (s : State) (n : NodeIx) (r : Completion) : State :=
  if r.outcome = .ok then s.probeOk n r.payload
  else if r.outcome.failure then s.probeFailed n
  else s

/-- One supervision evaluation of a CYCLIC or probe work item (R40, R41). -/
def State.supervise (s : State) (r : Completion) : State :=
  let s := (s.recordOutcome r.node r).compareAlert r.node r
  match r.op with
  | .cyclic => s.evaluateCyclic r.node r
  | _ => s.evaluateProbe r.node r

/-- What supervision does with an OK IDENT transaction (R56, R57). -/
def State.superviseIdentTxn (s : State) (r : Completion) : State :=
  let agrees := (s.node r.node).agrees r.payload
  let s := s.report r.node r.payload
  if agrees then s
  else (s.modNode r.node fun x => { x with matchState := false, inputAge := 255 }).enterState r.node .mismatch

/-- The effects of NODE_DISABLE on the node (R31). -/
def State.disableNode (s : State) (n : NodeIx) : State :=
  (s.modNode n fun x => { x with due := false, matchState := false, inputAge := 255, reprobe := 0 }).enterState n .disabled

/-- The effects of NODE_REPROBE on the node (R33). -/
def State.reprobeNode (s : State) (n : NodeIx) : State :=
  (s.modNode n fun x => { x with failCount := 0, matchState := false, reprobe := 0 }).enterState n .probing

/-- The effects of a NODE_ENABLE that passes its checks (R30, R55). -/
def State.enableNode (s : State) (n : NodeIx) : State :=
  (s.modNode n fun x => { x with
    failCount := 0, seq := false, alert := false, matchState := false, reprobe := 0, inputAge := 255,
    lastOutcome := none, lastStatus := 0, reportedType := 0, reportedOut := 0, reportedIn := 0,
    input := Vector.replicate 8 0, due := false, baseline := false }).enterState n .probing

/-- The cycle-start duties for one node (R54). -/
def Node.cycleDuties (x : Node) : Node :=
  match x.state with
  | .probing => { x with inputAge := succUpTo 255 x.inputAge }
  | .online => { x with inputAge := succUpTo 255 x.inputAge }
  | .suspect => { x with inputAge := succUpTo 255 x.inputAge }
  | .offline => { x with inputAge := succUpTo 255 x.inputAge, reprobe := x.reprobe - 1 }
  | .disabled => x
  | .mismatch => x

end Sys2Proof.Machine
end

