-- ==== Sys2Proof/Machine/Transactions.lean ====
section
/-! DEFINITION. The Transaction Table: allocation, the handle check, the ends of an entry and its release (R130 to R144).
The pick itself is the arbiter's. -/

namespace Sys2Proof.Machine

/-- The op a request's OP byte names (R129); SUBMIT lets only 1, 2 and 3 through. -/
def opOf (b : Byte) : LinkOp := if b = 1 then .readReg else if b = 2 then .writeReg else .ident

/-- The node entry a request's NODE byte names (R129); SUBMIT lets only 0 to 15 through. -/
def Txn.nodeIx (t : Txn) : NodeIx := Fin.ofNat 16 t.node.toNat

/-- The handle of an entry (R130). -/
def State.handle (s : State) (e : TxnIx) : Byte := handleOf (s.txn e).gen e

/-- A handle passes the check of R131. -/
def State.handleValid (s : State) (h : Byte) : Bool :=
  !h.getLsbD 3 && h.extractLsb' 4 4 == (s.txn (entryOf h)).gen

/-- The lowest-index FREE entry (R133). -/
def State.freeEntry (s : State) : Option TxnIx := (List.finRange 8).find? fun e => (s.txn e).state == .free

/-- An entry as ALLOC leaves it (R133). -/
def Txn.allocated (t : Txn) : Txn :=
  { t with state := .reserved, result := none, attempts := 0, replyStatus := 0, rdata := Vector.replicate 8 0 }

/-- ALLOC: the byte returned and the state after (R133). -/
def State.allocate (s : State) : Byte × State :=
  match s.freeEntry with
  | some e => (s.handle e, s.modTxn e Txn.allocated)
  | none => (Config.noHandle, s)

/-- An entry given back to the pool: its generation advances (R130, R141, R144). -/
def Txn.freed (t : Txn) : Txn := { t with state := .free, gen := t.gen + 1, cancelMark := false }

/-- The request fields pass SUBMIT's range checks (R134). -/
def Txn.rangesLegal (t : Txn) : Bool :=
  t.node.toNat ≤ 15 && (t.op == 1 || t.op == 2 || t.op == 3)
    && (t.op == 3 || (1 ≤ t.count.toNat && t.count.toNat ≤ 8))

/-- The request can be submitted: its ranges are legal and its node is not DISABLED (R134). -/
def State.submittable (s : State) (t : Txn) : Bool := t.rangesLegal && (s.node t.nodeIx).state != .disabled

/-- The TXN_END event of an entry that has reached a terminal state (R140). -/
def State.emitTxnEnd (s : State) (e : TxnIx) : State :=
  let t := s.txn e
  s.emit .txnEnd t.node (s.handle e) (resultField t.result)

/-- An entry ended as FAILED with NODE_UNAVAILABLE (R137). -/
def State.failUnavailable (s : State) (e : TxnIx) : State :=
  (s.modTxn e fun t => { t with
    state := .failed, result := some .nodeUnavailable, attempts := 0, replyStatus := 0,
    rdata := Vector.replicate 8 0, cancelMark := false }).emitTxnEnd e

/-- A QUEUED entry cancelled (R141). -/
def State.cancelQueued (s : State) (e : TxnIx) : State :=
  ({ s with order := s.order.erase e }.modTxn e fun t => { t with
    state := .cancelled, result := some .cancelled, attempts := 0, replyStatus := 0,
    rdata := Vector.replicate 8 0, cancelMark := false }).emitTxnEnd e

/-- An ACTIVE entry at the final outcome of its work item (R138, R142): OK gives DONE whatever the cancel mark; any
other outcome gives CANCELLED where a cancel was taken and FAILED where none was. -/
def Txn.ended (t : Txn) (r : Completion) : Txn :=
  { t with
    state := if r.outcome = .ok then .done else if t.cancelMark then .cancelled else .failed,
    result := some (if r.outcome = .ok then .link .ok else if t.cancelMark then .cancelled else .link r.outcome),
    replyStatus := r.status.getD 0,
    rdata := if r.outcome = .ok then imageOf r.payload else Vector.replicate 8 0,
    cancelMark := false }

/-- A transaction's final outcome: supervision hears of an OK IDENT first, then the entry ends (R138 to R140). -/
def State.endTxn (s : State) (e : TxnIx) (r : Completion) : State :=
  let s := if r.op = .ident ∧ r.outcome = .ok then s.superviseIdentTxn r else s
  (s.modTxn e fun t => t.ended r).emitTxnEnd e

end Sys2Proof.Machine
end

