-- ==== Sys2Proof/Machine/Engine.lean ====
section
/-! DEFINITION. The Scan Engine: applicability and the slot search, cycle start, overrun, cycle end and the stop
(R63 to R80). Nothing here chooses link work. -/

namespace Sys2Proof.Machine

/-- Slot `k` is applicable in the current cycle (R63). -/
def State.applicable (s : State) (k : SlotIx) : Bool :=
  let sl := s.slots[k]
  sl.enabled && k.val < s.engine.latchedLen && s.engine.cycle.toNat % sl.divisor == sl.phase

/-- Slot `k` yields a work item now (R75). -/
def State.slotYields (s : State) (k : SlotIx) : Bool :=
  s.applicable k && (s.node s.slots[k].node).serviceClass != .none

/-- The first slot from the cursor on that yields work (R75). -/
def State.searchSlot (s : State) : Option SlotIx :=
  (List.finRange 32).find? fun k => s.engine.cursor ≤ k.val && s.slotYields k

/-- The per-cycle counts at 0 (R73, R77, R80). -/
def Engine.clearCounts (g : Engine) : Engine := { g with evaluated := 0, failed := 0, dropped := 0 }

/-- Entry of the engine to WAITING, which clears every gap-probe mark (R92). -/
def State.enterWaiting (s : State) : State :=
  (s.modEngine fun g => { g with state := .waiting }).mapNodes fun x => { x with gapMark := false }

/-- The CYCLE_OVERRUN event, if the cycle dropped any start (R77, R80). -/
def State.reportDropped (s : State) : State :=
  if 0 < s.engine.dropped then s.emit .cycleOverrun Config.noNode (byteOf s.engine.dropped) 0 else s

/-- A cycle start taken in WAITING (R73), without the boundary it may form. -/
def State.beginCycle (s : State) : State :=
  let s := s.modEngine fun g =>
    { g.clearCounts with cycle := g.cycle + 1, latchedLen := g.schedLen.toNat, cursor := 0 }
  (s.mapNodes Node.cycleDuties).modEngine fun g => { g with state := .cycling }

/-- An overrun (R74). -/
def State.overrun (s : State) : State :=
  s.modEngine fun g => { g with overruns := succUpTo 255 g.overruns, dropped := succUpTo 255 g.dropped }

/-- The end of a cycle (R77): the cursor stands at the latched length, which a search left it at (R75). -/
def State.endCycle (s : State) : State :=
  let s := s.modEngine fun g => { g with cursor := g.latchedLen }
  let s := s.emit .cycleDone Config.noNode (byteOf s.engine.evaluated) (byteOf s.engine.failed)
  (s.reportDropped.modEngine Engine.clearCounts).enterWaiting

/-- The engine enters STOPPED by STOP_SCAN (R80). -/
def State.enterStopped (s : State) : State :=
  (s.reportDropped.emit .scanState Config.noNode EngineState.stopped.code 2).modEngine fun g =>
    { g.clearCounts with timer := none, state := .stopped }

/-- The cycle timer loaded with CYCLE_PERIOD (R69). -/
def Engine.loadTimer (g : Engine) : Engine := { g with timer := some g.period.toNat }

/-- A slot work item's final outcome counted (R76). -/
def Engine.countSlot (g : Engine) (o : LinkOutcome) : Engine :=
  { g with evaluated := g.evaluated + 1, failed := if o.failure then g.failed + 1 else g.failed }

end Sys2Proof.Machine
end

