-- ==== Sys2Proof/Machine/Arbiter.lean ====
section
/-! DEFINITION. Hand-over of attempts and the Link Arbiter's choice (R2, R6, R12, R84 to R100, R107, R136, R137). -/

namespace Sys2Proof.Machine

/-! ## Hand-over -/

/-- The request payload of an attempt, from its source at the hand-over (R6, R107). -/
def State.requestPayload (s : State) (cls : WorkClass) (op : LinkOp) (n : NodeIx) : List Byte :=
  match cls, op with
  | _, .cyclic => (s.node n).output.toList.take (s.node n).outLen.toNat
  | .txn h, .readReg => [(s.txn (entryOf h)).regIndex, (s.txn (entryOf h)).count]
  | .txn h, .writeReg =>
    (s.txn (entryOf h)).regIndex :: (s.txn (entryOf h)).wdata.toList.take (s.txn (entryOf h)).count.toNat
  | _, _ => []

/-- The reply payload length Q of an attempt (R6). -/
def State.replyLength (s : State) (cls : WorkClass) (op : LinkOp) (n : NodeIx) : Nat :=
  match cls, op with
  | _, .cyclic => (s.node n).inLen.toNat
  | .txn h, .readReg => (s.txn (entryOf h)).count.toNat
  | _, .ident => 3
  | _, _ => 0

/-- The exchange an attempt begins, latched at its hand-over (R2). The select line goes low at the hand-over itself
when 2 µs have passed since the last release, or none was made since reset (DEDUCED, log entry 11: safe). -/
def State.latch (s : State) (cls : WorkClass) (op : LinkOp) (n : NodeIx) (toggle : Bool) : Exchange :=
  let x := s.node n
  { node := n, segment := x.segment, address := x.address, profile := s.profileOf x, op := op, toggle := toggle,
    payload := s.requestPayload cls op n, replyLen := s.replyLength cls op n, selected := s.link.rested }

/-- A CYCLIC hand-over captures the outputs and clears the node's due flag (R96, R107). -/
def State.clearDueFor (s : State) (op : LinkOp) (n : NodeIx) : State :=
  if op = .cyclic then s.modNode n fun x => { x with due := false } else s

/-- The hand-over of an attempt of a work item (R1, R2, R16). -/
def State.handOver (s : State) (w : WorkItem) : State :=
  let x := s.latch w.cls w.op w.node w.toggle
  (s.clearDueFor w.op w.node).modLink fun l =>
    { l with work := some { w with phase := .inFlight x }, sckMode := x.profile.mode }

/-- The arbiter's record for a class of work (R85). -/
def WorkClass.prev : WorkClass → PrevWork
  | .slot => .slot
  | .urgent => .urgent
  | .gapProbe => .gapProbe
  | .txn _ => .txn

/-- The toggle of a new request (R12). -/
def Node.newToggle (x : Node) (op : LinkOp) : Bool := if op = .ident then false else !x.seq

/-- A new work item before its first attempt is latched (R12, R16). -/
def State.newWork (s : State) (cls : WorkClass) (op : LinkOp) (n : NodeIx) : WorkItem :=
  let toggle := (s.node n).newToggle op
  { cls := cls, op := op, node := n, toggle := toggle, attempt := 1, suppressed := false, nodeCmd := none
    phase := .inFlight (s.latch cls op n toggle) }

/-- The first attempt of a new work item handed over (R12, R16, R85). -/
def State.startWork (s : State) (cls : WorkClass) (op : LinkOp) (n : NodeIx) : State :=
  (s.handOver (s.newWork cls op n)).modLink fun l => { l with prev := cls.prev }

/-- A pending retry handed over: the same work item, one attempt more (R18). -/
def State.handOverRetry (s : State) : State :=
  match s.link.work with
  | some w =>
    match w.phase with
    | .retryPending _ => if s.engine.state = .draining then s else s.handOver { w with attempt := w.attempt + 1 }
    | .inFlight _ => s
  | none => s

/-! ## The classes (R84) -/

/-- The lowest-index node whose due flag is set and whose class is CYCLIC (R93). -/
def State.urgentNode (s : State) : Option NodeIx :=
  (List.finRange 16).find? fun n => (s.node n).due && (s.node n).serviceClass == .cyclic

/-- The try of class U (R93). -/
def State.tryUrgent (s : State) : Option State := s.urgentNode.map fun n => s.startWork .urgent .cyclic n

/-- Some enabled slot within the latched length names the node (R92). -/
def State.scheduled (s : State) (n : NodeIx) : Bool :=
  (List.finRange 32).any fun k => k.val < s.engine.latchedLen && s.slots[k].enabled && s.slots[k].node == n

/-- The node needs a gap probe (R92). -/
def State.needsGapProbe (s : State) (n : NodeIx) : Bool :=
  (s.node n).serviceClass == .probe && !s.scheduled n && !(s.node n).gapMark

/-- The try of class P (R92). -/
def State.tryGapProbe (s : State) : Option State :=
  ((List.finRange 16).find? fun n => s.needsGapProbe n).map fun n =>
    (s.startWork .gapProbe .ident n).modNode n fun x => { x with gapMark := true }

/-- What a try of class T gives (R94). -/
inductive TxnTry where
  | absent
  | handed (s : State)
  | unavailable (s : State)
  deriving DecidableEq, Repr

/-- The try of class T: the pick of the oldest QUEUED entry (R94, R136, R137). -/
def State.tryTxn (s : State) : TxnTry :=
  match s.order with
  | [] => .absent
  | e :: rest =>
    let t := s.txn e
    let s := { s with order := rest }
    if (s.node t.nodeIx).serviceClass = .cyclic then
      .handed ((s.modTxn e fun u => { u with state := .active }).startWork (.txn (s.handle e)) (opOf t.op) t.nodeIx)
    else .unavailable (s.failUnavailable e)

/-- The try of class S when the search finds a slot (R75). -/
def State.trySlot (s : State) : Option State :=
  s.searchSlot.map fun k =>
    let n := s.slots[k].node
    let op : LinkOp := if (s.node n).serviceClass = .cyclic then .cyclic else .ident
    (s.modEngine fun g => { g with cursor := k.val + 1 }).startWork .slot op n

/-! ## The choice (R87 to R91, R94) -/

/-- The first step of every order: U, if the previous work item was not U (R90, R91). -/
def State.tryUrgentFirst (s : State) : Option State := if s.link.prev = .urgent then none else s.tryUrgent

/-- The choice in WAITING and in STOPPED (R91). A pick that ends NODE_UNAVAILABLE begins the order again (R94); `fuel`
bounds how often, and one more than the pending order's length is always enough. -/
def State.chooseGap : Nat → State → State
  | 0, s => s
  | fuel + 1, s =>
    match s.tryUrgentFirst with
    | some t => t
    | none =>
      match (if s.engine.state = .waiting then s.tryGapProbe else none) with
      | some t => t
      | none =>
        match s.tryTxn with
        | .handed t => t
        | .unavailable t => State.chooseGap fuel t
        | .absent => s.tryUrgent.getD s

/-- Class T is tried in CYCLING (R88, R90). -/
def State.txnAdmitted (s : State) : Bool :=
  s.engine.linkMode == .txnFirst || (s.engine.linkMode == .interleave && s.link.prev == .slot)

/-- The choice in CYCLING (R90); a search without work ends the cycle, and the choice goes on in WAITING. -/
def State.chooseCycling : Nat → State → State
  | 0, s => s
  | fuel + 1, s =>
    match s.tryUrgentFirst with
    | some t => t
    | none =>
      match (if s.txnAdmitted then s.tryTxn else .absent) with
      | .handed t => t
      | .unavailable t => State.chooseCycling fuel t
      | .absent => s.trySlot.getD (State.chooseGap (s.endCycle.order.length + 1) s.endCycle)

/-- The choice by engine state, R being absent (R87, R89 to R91). -/
def State.choose (s : State) : State :=
  match s.engine.state with
  | .cycling => State.chooseCycling (s.order.length + 1) s
  | .waiting => State.chooseGap (s.order.length + 1) s
  | .stopped => State.chooseGap (s.order.length + 1) s
  | .draining => s

/-- An event that brings a claim into being forms a boundary while the link is idle (R86). -/
def State.idleBoundary (s : State) : State := if s.link.idle then s.choose else s

/-- A cycle-start event, from whatever source (R73, R74); in STOPPED it has no effect. -/
def State.cycleStart (s : State) : State :=
  match s.engine.state with
  | .waiting => s.beginCycle.idleBoundary
  | .cycling => s.overrun
  | .draining => s.overrun
  | .stopped => s

end Sys2Proof.Machine
end

