-- ==== Sys2Proof/Machine/Completion.lean ====
section
/-! DEFINITION. The end of an attempt and of a work item: completion, retry, withdrawal and abort (R3, R11, R12, R17 to
R20, R32, R34, R76, R80, R86). -/

namespace Sys2Proof.Machine

/-- A node command pending for the work item's node takes effect (R32, R34). -/
def State.completeNodeCmd (s : State) (w : WorkItem) : State :=
  match w.nodeCmd with
  | none => s
  | some .disable => (s.disableNode w.node).completePending .nodeCommand
  | some .reprobe => (s.reprobeNode w.node).completePending .nodeCommand

/-- The owner of a work item evaluates its final outcome (R11, R40, R76, R138). -/
def State.ownerEvaluates (s : State) (cls : WorkClass) (r : Completion) : State :=
  match cls with
  | .txn h => s.endTxn (entryOf h) r
  | .slot => (s.supervise r).modEngine fun g => g.countSlot r.outcome
  | .urgent => s.supervise r
  | .gapProbe => s.supervise r

/-- A drained engine enters STOPPED, which completes the STOP_SCAN (R80). -/
def State.stopIfDraining (s : State) : State :=
  if s.engine.state = .draining then s.enterStopped.completePending .stopScan else s

/-- A work item ends with `r` as its final completion record: its owner evaluates it, a pending node command of its
node completes, a draining engine stops, in that order (R86). -/
def State.finishWork (s : State) (w : WorkItem) (r : Completion) : State :=
  (((s.modLink fun l => { l with work := none }).ownerEvaluates w.cls r).completeNodeCmd w).stopIfDraining

/-- The node's SEQ takes the toggle sent when the outcome is OK (R12). -/
def State.updateToggle (s : State) (r : Completion) : State :=
  if r.outcome = .ok then s.modNode r.node fun x => { x with seq := r.toggle } else s

/-- A completed attempt of a transaction is counted in its entry (R136). -/
def State.countAttempt (s : State) (cls : WorkClass) : State :=
  match cls with
  | .txn h => s.modTxn (entryOf h) fun t => { t with attempts := t.attempts + 1 }
  | _ => s

/-- A retry becomes pending (R17). -/
def State.retries (s : State) (w : WorkItem) (r : Completion) : Bool :=
  r.outcome.retryable && w.attempt ≤ s.engine.retryLimit.toNat && !w.suppressed && s.engine.state != .draining

/-- The completion of the attempt in flight `x` of `w`, with the boundary it forms (R3, R11, R17, R18, R86). -/
def State.completeAttempt (s : State) (w : WorkItem) (x : Exchange) (driven : List Byte) (o : RetryOrder) : State :=
  let r := x.complete w.attempt driven
  let s := (((s.modLink fun l => { l with rested := false }).updateToggle r).countAttempt w.cls)
  if s.retries w r then
    let s := s.modLink fun l => { l with work := some { w with phase := .retryPending r } }
    match o with
    | .retryFirst => s.handOverRetry
    | .requestFirst => s
  else (s.finishWork w r).choose

/-- A completion of whatever exchange is on the wire; without one whose select line is low there is none (R3; DEDUCED, log
entry 8: safe). -/
def State.completion (s : State) (driven : List Byte) (o : RetryOrder) : State :=
  match s.link.work with
  | some w =>
    match w.phase with
    | .inFlight x => if x.selected then s.completeAttempt w x driven o else s
    | .retryPending _ => s
  | none => s

/-- The work item's retries are suppressed (R19). -/
def State.suppress (s : State) : State :=
  s.modLink fun l => { l with work := l.work.map fun w => { w with suppressed := true } }

/-- A pending retry whose work item has been suppressed is withdrawn: the last completed attempt's outcome is final, and
the choice of that completion's boundary is made (R18). An attempt in flight is left to run. -/
def State.withdrawRetry (s : State) : State :=
  match s.link.work with
  | some w =>
    match w.phase with
    | .retryPending r => (s.finishWork w r).choose
    | .inFlight _ => s
  | none => s

/-- The exchange in flight is cut off and its work item dropped (R20): a select line that was low is released. -/
def State.abortWork (s : State) : State :=
  s.modLink fun l =>
    { l with
      rested := match l.exchange with | some x => l.rested && !x.selected | none => l.rested
      work := none }

/-- The select line of a handed-over exchange is driven low; 2 µs have passed since any earlier release (R2). -/
def State.assertSelect (s : State) : State :=
  match s.link.work with
  | some w =>
    match w.phase with
    | .inFlight x =>
      s.modLink fun l =>
        { l with rested := true, work := some { w with phase := .inFlight { x with selected := true } } }
    | .retryPending _ => s
  | none => s

end Sys2Proof.Machine
end

