-- ==== Sys2Proof/Machine/Commands.lean ====
section
/-! DEFINITION. The commands of the command register and of the transaction ports (R28 to R36, R71, R72, R78, R82, R131
to R146, R159, R178, R179). -/

namespace Sys2Proof.Machine

/-! ## Engine commands -/

/-- START_SCAN (R72). Its boundary is the one its effects leave: under the CYCLING order with source TIMER, else under
the WAITING order (R86; DEDUCED, log entry 10: unsafe). -/
def State.cmdStartScan (s : State) : State :=
  if s.engine.state = .stopped then
    let s := (s.answer .ok).modEngine fun g => { g with latchedLen := g.schedLen.toNat }
    let s := s.enterWaiting.emit .scanState Config.noNode EngineState.waiting.code 1
    if s.engine.source = .timer then (s.modEngine Engine.loadTimer).beginCycle.idleBoundary else s.idleBoundary
  else s.refuseCommand

/-- STOP_SCAN (R78, R79). -/
def State.cmdStopScan (s : State) : State :=
  match s.engine.state with
  | .stopped => s.refuseCommand
  | .draining => s.refuseCommand
  | .waiting => (s.answer .ok).enterStopped
  | .cycling =>
    if s.link.idle then (s.answer .ok).enterStopped
    else (((s.answerPending .stopScan).modEngine fun g => { g with state := .draining }).suppress).withdrawRetry

/-- TRIGGER_CYCLE (R71). -/
def State.cmdTriggerCycle (s : State) : State :=
  if s.engine.state = .stopped ∨ s.engine.source ≠ .host then s.refuseCommand else (s.answer .ok).cycleStart

/-! ## Node commands -/

/-- The node CMD_ARG names, if it names one (R28). -/
def State.argNode (s : State) : Option NodeIx := if s.cmd.arg.toNat ≤ 15 then some (Fin.ofNat 16 s.cmd.arg.toNat) else none

/-- A CMD_ARG above 15 (R28). -/
def State.badArgument (s : State) : State := (s.answer .badArg).raise .badValue Config.cmdAddr

/-- Another entry in service has the same SEGMENT and ADDRESS as entry `n` (R29). -/
def State.duplicate (s : State) (n : NodeIx) : Bool :=
  (List.finRange 16).any fun m =>
    m != n && (s.node m).state != .disabled && (s.node m).segment == (s.node n).segment
      && (s.node m).address == (s.node n).address

/-- The entry's static configuration may go into service (R29). -/
def State.enableLegal (s : State) (n : NodeIx) : Bool :=
  (s.node n).outLen.toNat ≤ 8 && (s.node n).inLen.toNat ≤ 8 && !s.duplicate n

/-- A node that has just entered PROBING by command in WAITING brings class P into being when it needs a gap probe
(R86). -/
def State.probeBoundary (s : State) (n : NodeIx) : State :=
  if s.engine.state = .waiting ∧ s.needsGapProbe n then s.idleBoundary else s

/-- The work in progress belongs to node `n` (R28). -/
def State.workOf (s : State) (n : NodeIx) : Option WorkItem := s.link.work.filter fun w => w.node == n

/-- A node command accepted in its pending form: it waits for the work item, whose retries are suppressed (R32, R34). -/
def State.pendNodeCmd (s : State) (c : NodeCmd) : State :=
  ((s.answerPending .nodeCommand).modLink fun l =>
    { l with work := l.work.map fun w => { w with nodeCmd := some c, suppressed := true } }).withdrawRetry

/-- NODE_ENABLE n (R29, R30). -/
def State.nodeEnable (s : State) (n : NodeIx) : State :=
  if (s.node n).state ≠ .disabled then s.refuseCommand
  else if s.enableLegal n then ((s.answer .ok).enableNode n).probeBoundary n
  else (s.answer .badArg).raise .configInvalid Config.cmdAddr

/-- NODE_DISABLE n (R31, R32, R35). -/
def State.nodeDisable (s : State) (n : NodeIx) : State :=
  if (s.node n).state = .disabled then s.refuseCommand
  else
    match s.workOf n with
    | some _ => s.pendNodeCmd .disable
    | none => (s.answer .ok).disableNode n

/-- NODE_REPROBE n (R33 to R35). -/
def State.nodeReprobe (s : State) (n : NodeIx) : State :=
  if (s.node n).state = .disabled then s.refuseCommand
  else
    match s.workOf n with
    | some w => if w.nodeCmd = some .disable then s.refuseCommand else s.pendNodeCmd .reprobe
    | none => ((s.answer .ok).reprobeNode n).probeBoundary n

/-- A node command on the node in CMD_ARG (R28). -/
def State.cmdNode (s : State) (f : State → NodeIx → State) : State :=
  match s.argNode with
  | some n => f s n
  | none => s.badArgument

/-! ## Queue and part commands -/

/-- EVQ_FLUSH's effect on the queue (R159, R166). -/
def Evq.flush (q : Evq) : Evq :=
  { q with records := [], lost := 0, overflowed := false, reading := none }.restartAge

/-- EVQ_FLUSH (R159). -/
def State.cmdEvqFlush (s : State) : State := (s.answer .ok).modEvq Evq.flush

/-- The record SCAN_CLEAR leaves (R162). -/
def Record.cleared : Record :=
  { kind := .scanState, node := Config.noNode, stamp := 0, arg0 := EngineState.stopped.code, arg1 := 3 }

/-- A node entry after SCAN_CLEAR (R36, R60, R97, R113, R126; DEDUCED, log entry 15: safe); `disabling` when its
NODE_DISABLE was pending. -/
def Node.cleared (x : Node) (disabling : Bool) : Node :=
  let x := { x with
    matchState := false, reprobe := 0, inputAge := 255, baseline := false, due := false, gapMark := false
    input := Vector.replicate 8 0 }
  if x.state = .disabled then x
  else if disabling then { x with state := .disabled }
  else { x with state := .probing, failCount := 0, seq := false, alert := false }

/-- The engine after SCAN_CLEAR (R82). -/
def Engine.cleared (g : Engine) : Engine :=
  { g.clearCounts with state := .stopped, cycle := 0, timer := none, latchedLen := 0, cursor := 0, overruns := 0 }

/-- A transaction entry after SCAN_CLEAR (R146). -/
def Txn.cleared (t : Txn) : Txn := if t.state = .free then { t with cancelMark := false } else t.freed

/-- NODE_DISABLE is pending for node `n` (R35, R36). -/
def State.disablePending (s : State) (n : NodeIx) : Bool :=
  match s.workOf n with
  | some w => w.nodeCmd == some .disable
  | none => false

/-- SCAN_CLEAR (R20, R36, R60, R82, R97, R113, R126, R146, R162, R178). -/
def State.cmdScanClear (s : State) : State :=
  let nodes := tabulate 16 fun n => (s.node n).cleared (s.disablePending n)
  let s := (s.answer .ok).abortWork
  { s with
    nodes := nodes
    engine := s.engine.cleared
    link := { s.link with prev := .none }
    txns := tabMap Txn.cleared s.txns
    order := []
    evq := { s.evq.flush with records := [Record.cleared] }
    port := { s.port with staging := [] } }

/-- SOFT_RESET marks its transfer (R179). -/
def State.cmdSoftReset (s : State) : State := (s.answer .ok).modPort fun p => { p with softMark := true }

/-- A code with no command (R178). -/
def State.cmdUnknown (s : State) : State := (s.answer .unknown).raise .cmdUnknown Config.cmdAddr

/-- A byte written to CMD (R178). -/
def State.command (s : State) (b : Byte) : State :=
  if b = Config.codeStartScan then s.cmdStartScan
  else if b = Config.codeStopScan then s.cmdStopScan
  else if b = Config.codeTriggerCycle then s.cmdTriggerCycle
  else if b = Config.codeNodeEnable then s.cmdNode State.nodeEnable
  else if b = Config.codeNodeDisable then s.cmdNode State.nodeDisable
  else if b = Config.codeNodeReprobe then s.cmdNode State.nodeReprobe
  else if b = Config.codeEvqFlush then s.cmdEvqFlush
  else if b = Config.codeScanClear then s.cmdScanClear
  else if b = Config.codeSoftReset then s.cmdSoftReset
  else s.cmdUnknown

/-! ## Transaction ports -/

/-- SUBMIT of an entry whose handle passed its check (R134). -/
def State.submitEntry (s : State) (e : TxnIx) : State :=
  let t := s.txn e
  if t.state ≠ .reserved then s.raiseHere .badHandle
  else if s.submittable t then
    { s.modTxn e (fun u => { u with state := .queued }) with order := s.order ++ [e] }.idleBoundary
  else s.raiseHere .badValue

/-- The retries of the work item of entry `e` are suppressed (R19, R142). -/
def State.suppressTxn (s : State) (e : TxnIx) : State :=
  match s.link.work with
  | some w =>
    match w.cls with
    | .txn h => if entryOf h = e then s.suppress.withdrawRetry else s
    | _ => s
  | none => s

/-- CANCEL of an entry whose handle passed its check (R141 to R143). -/
def State.cancelEntry (s : State) (e : TxnIx) : State :=
  match (s.txn e).state with
  | .free => s.raiseHere .badHandle
  | .reserved => s.modTxn e Txn.freed
  | .queued => s.cancelQueued e
  | .active => (s.modTxn e fun t => { t with cancelMark := true }).suppressTxn e
  | .done => s.raiseHere .tooLate
  | .failed => s.raiseHere .tooLate
  | .cancelled => s.raiseHere .tooLate

/-- RELEASE of an entry whose handle passed its check (R144). -/
def State.releaseEntry (s : State) (e : TxnIx) : State :=
  match (s.txn e).state with
  | .free => s.raiseHere .badHandle
  | .reserved => s.raiseHere .badHandle
  | .queued => s.raiseHere .tooLate
  | .active => s.raiseHere .tooLate
  | .done => s.modTxn e Txn.freed
  | .failed => s.modTxn e Txn.freed
  | .cancelled => s.modTxn e Txn.freed

/-- A byte written to one of the three handle ports: the handle check first (R131). -/
def State.withHandle (s : State) (h : Byte) (f : State → TxnIx → State) : State :=
  if s.handleValid h then f s (entryOf h) else s.raiseHere .badHandle

end Sys2Proof.Machine
end

