-- ==== Sys2Proof/Machine/Window.lean ====
section
/-! DEFINITION. What a data byte written to each register does, and what each register reads as (R13, R14, R21 to R26,
R48, R53, R61 to R68, R88, R101, R103, R110, R116, R129 to R132, R150, R155 to R161, R164, R165, R168, R169, R175, R178). -/

namespace Sys2Proof.Machine

/-! ## Writes -/

/-- A register whose value a byte replaces when it is legal, and which refuses it as BAD_VALUE when it is not. -/
def State.writeChecked (s : State) (legal : Bool) (t : State) : State := if legal then t else s.raiseHere .badValue

/-- START_SOURCE, SYNC_EDGE: locked outside STOPPED, then range-checked (R67). -/
def State.writeSource (s : State) (b : Byte) : State :=
  if s.engine.state ≠ .stopped then s.raiseHere .scanLocked
  else match startSourceOf b with
    | some v => s.modEngine fun g => { g with source := v }
    | none => s.raiseHere .badValue

/-- SYNC_EDGE (R67). -/
def State.writeSyncEdge (s : State) (b : Byte) : State :=
  if s.engine.state ≠ .stopped then s.raiseHere .scanLocked
  else match edgeOf b with
    | some v => s.modEngine fun g => { g with syncEdge := v }
    | none => s.raiseHere .badValue

/-- LINK_MODE (R88). -/
def State.writeLinkMode (s : State) (b : Byte) : State :=
  match linkModeOf b with
  | some v => s.modEngine fun g => { g with linkMode := v }
  | none => s.raiseHere .badValue

/-- The high byte of CYCLE_PERIOD is held (R68). -/
def State.writePeriodHigh (s : State) (b : Byte) : State := s.modEngine fun g => { g with pendingHigh := some b }

/-- The low byte of CYCLE_PERIOD forms the new value (R68). -/
def State.writePeriodLow (s : State) (b : Byte) : State :=
  let v := joinBytes (s.engine.pendingHigh.getD (hiByte s.engine.period)) b
  let t := s.modEngine fun g => { g with pendingHigh := none }
  if v = 0 then t.raiseHere .badValue else t.modEngine fun g => { g with period := v }

/-- EVQ_POLICY (R160). -/
def State.writePolicy (s : State) (b : Byte) : State :=
  if !s.evq.records.isEmpty || s.evq.reportPending then s.raiseHere .evqLocked
  else match lossPolicyOf b with
    | some v => s.modEvq fun q => { q with policy := v }
    | none => s.raiseHere .badValue

/-- The legal values of a profile field (R13). -/
def ProfileField.legal (f : ProfileField) (b : Byte) : Bool :=
  match f with
  | .rate => b.toNat ≤ 6
  | .mode => b.toNat ≤ 3
  | .setup => 1 ≤ b.toNat && b.toNat ≤ 16
  | .hold => 1 ≤ b.toNat && b.toNat ≤ 16
  | .byteGap => b.toNat ≤ 15
  | .turn => 1 ≤ b.toNat && b.toNat ≤ 4

/-- A profile field replaced (R14). -/
def Profile.set (p : Profile) (f : ProfileField) (b : Byte) : Profile :=
  match f with
  | .rate => { p with rate := b }
  | .mode => { p with mode := b }
  | .setup => { p with setup := b }
  | .hold => { p with hold := b }
  | .byteGap => { p with byteGap := b }
  | .turn => { p with turn := b }

/-- A profile field: locked while the engine runs or a work item is in progress, then range-checked (R14). -/
def State.writeProfile (s : State) (p : ProfileIx) (f : ProfileField) (b : Byte) : State :=
  if s.engine.state ≠ .stopped ∨ !s.link.idle then s.raiseHere .profileLocked
  else if f.legal b then s.modLink fun l => { l with profiles := l.profiles.set p (l.profiles[p].set f b) }
  else s.raiseHere .badValue

/-- The static fields of a node entry (R21). -/
def NodeField.static (f : NodeField) : Bool :=
  match f with
  | .segment => true
  | .address => true
  | .profile => true
  | .outLen => true
  | .inLen => true
  | .expectType => true
  | _ => false

/-- The values a node configuration byte may be written with (R22, R24). -/
def NodeField.legal (f : NodeField) (b : Byte) : Bool :=
  match f with
  | .segment => b.toNat ≤ 3
  | .address => b.toNat ≤ 31
  | .profile => b.toNat ≤ 3
  | .options => b.toNat ≤ 7
  | _ => true

/-- A node configuration byte replaced (R22, R25); OPTIONS without MATCH_ENABLE sets MATCH_STATE false at once (R24, R124). -/
def Node.set (x : Node) (f : NodeField) (b : Byte) : Node :=
  match f with
  | .segment => { x with segment := b }
  | .address => { x with address := b }
  | .profile => { x with profile := b }
  | .outLen => { x with outLen := b }
  | .inLen => { x with inLen := b }
  | .expectType => { x with expectType := b }
  | .options => { x with options := b, matchState := b.getLsbD 1 && x.matchState }
  | .matchValueHi => { x with matchValueHi := b }
  | .matchValueLo => { x with matchValueLo := b }
  | .matchMaskHi => { x with matchMaskHi := b }
  | .matchMaskLo => { x with matchMaskLo := b }

/-- A node configuration byte: the static ones locked outside DISABLED, then the range check (R22 to R24). -/
def State.writeNodeConfig (s : State) (n : NodeIx) (f : NodeField) (b : Byte) : State :=
  if f.static ∧ (s.node n).state ≠ .disabled then s.raiseHere .nodeLocked
  else if f.legal b then s.modNode n fun x => x.set f b
  else s.raiseHere .badValue

/-- Some node of class PROBE has no enabled slot within the latched length (R86, the slot write). -/
def State.unscheduledProbe (s : State) : Bool :=
  (List.finRange 16).any fun n => (s.node n).serviceClass == .probe && !s.scheduled n

/-- A slot byte (R62, R64), with the boundary it may form in WAITING (R86; DEDUCED, log entry 16: safe). -/
def State.writeSlot (s : State) (k : SlotIx) (second : Bool) (b : Byte) : State :=
  let sl := s.slots[k]
  if (if second then slotByte1Legal b else slotByte0Legal b) then
    let t : State := { s with slots := s.slots.set k (if second then { sl with byte1 := b } else { sl with byte0 := b }) }
    if t.engine.state = .waiting ∧ t.unscheduledProbe then t.idleBoundary else t
  else s.raiseHere .badValue

/-- The request fields of a transaction entry (R129). -/
def TxnField.request (f : TxnField) : Bool :=
  match f with
  | .node => true
  | .op => true
  | .regIndex => true
  | .count => true
  | .wdata _ => true
  | _ => false

/-- A request field replaced (R132). -/
def Txn.set (t : Txn) (f : TxnField) (b : Byte) : Txn :=
  match f with
  | .node => { t with node := b }
  | .op => { t with op := b }
  | .regIndex => { t with regIndex := b }
  | .count => { t with count := b }
  | .wdata i => { t with wdata := t.wdata.set i b }
  | _ => t

/-- A byte of a transaction entry (R132). -/
def State.writeTxn (s : State) (e : TxnIx) (f : TxnField) (b : Byte) : State :=
  if !f.request then s.raiseHere .writeRo
  else if (s.txn e).state = .reserved then s.modTxn e fun t => t.set f b
  else s.raiseHere .txnLocked

/-- A data byte for the output window is staged (R103). -/
def State.stageOutput (s : State) (n : NodeIx) (i : ByteIx) (b : Byte) : State :=
  s.modPort fun p => { p with staging := p.staging.write (outputPos n i) b }

/-- HOST_ERR_CLEAR (R169). -/
def State.clearErrors (s : State) : State := { s with err := ErrCapture.reset }

/-- A data byte written to a register (R172, R175 and the owner's rule). -/
def State.writeReg (s : State) (r : Reg) (b : Byte) : State :=
  match r with
  | .cmdArg => { s with cmd := { s.cmd with arg := b } }
  | .cmd => s.command b
  | .startSource => s.writeSource b
  | .syncEdge => s.writeSyncEdge b
  | .linkMode => s.writeLinkMode b
  | .periodHigh => s.writePeriodHigh b
  | .periodLow => s.writePeriodLow b
  | .schedLen => s.writeChecked (b.toNat ≤ 32) (s.modEngine fun g => { g with schedLen := b })
  | .retryLimit => s.writeChecked (b.toNat ≤ 7) (s.modEngine fun g => { g with retryLimit := b })
  | .offlineThreshold =>
    s.writeChecked (1 ≤ b.toNat && b.toNat ≤ 15) (s.modEngine fun g => { g with offlineThreshold := b })
  | .reprobeInterval => s.writeChecked (b != 0) (s.modEngine fun g => { g with reprobeInterval := b })
  | .evqPolicy => s.writePolicy b
  | .kindHigh => s.modEvq fun q => { q with kindEnable := joinBytes (b &&& Config.kindMaskHigh) (loByte q.kindEnable) }
  | .kindLow => s.modEvq fun q => { q with kindEnable := joinBytes (hiByte q.kindEnable) (b &&& Config.kindMaskLow) }
  | .attnLevel => s.writeChecked (1 ≤ b.toNat && b.toNat ≤ 32) (s.modAttn fun a => { a with level := b })
  | .attnDelay => s.modAttn fun a => { a with delay := b }
  | .attnMask => s.writeChecked (b.toNat ≤ 3) (s.modAttn fun a => { a with mask := b })
  | .errClear => s.clearErrors
  | .txnSubmit => s.withHandle b State.submitEntry
  | .txnCancel => s.withHandle b State.cancelEntry
  | .txnRelease => s.withHandle b State.releaseEntry
  | .profile p f => s.writeProfile p f b
  | .nodeConfig n f => s.writeNodeConfig n f b
  | .slot k second => s.writeSlot k second b
  | .output n i => s.stageOutput n i b
  | .rise n i => s.modNode n fun x => { x with rise := x.rise.set i b }
  | .fall n i => s.modNode n fun x => { x with fall := x.fall.set i b }
  | .txn e f => s.writeTxn e f b
  | .undefined => s.raiseHere .undefinedAddr
  | .deviceId => s.raiseHere .writeRo
  | .revision => s.raiseHere .writeRo
  | .cmdStatus => s.raiseHere .writeRo
  | .scanState => s.raiseHere .writeRo
  | .cycleHigh => s.raiseHere .writeRo
  | .cycleLow => s.raiseHere .writeRo
  | .overrunCount => s.raiseHere .writeRo
  | .evqData => s.raiseHere .writeRo
  | .evqLevel => s.raiseHere .writeRo
  | .lostHigh => s.raiseHere .writeRo
  | .lostLow => s.raiseHere .writeRo
  | .evqStatus => s.raiseHere .writeRo
  | .attnCause => s.raiseHere .writeRo
  | .attnHeadAge => s.raiseHere .writeRo
  | .errStatus => s.raiseHere .writeRo
  | .errCode => s.raiseHere .writeRo
  | .errAddrHigh => s.raiseHere .writeRo
  | .errAddrLow => s.raiseHere .writeRo
  | .txnAlloc => s.raiseHere .writeRo
  | .txnQueued => s.raiseHere .writeRo
  | .nodeStatus _ _ => s.raiseHere .writeRo
  | .input _ _ => s.raiseHere .writeRo

/-! ## The queue port (R156 to R158) -/

/-- The head item a new item begins as (R156). -/
def Evq.headItem (q : Evq) (cycle : Half) : OpenItem :=
  match q.policy with
  | .keepOldest =>
    if !q.records.isEmpty then .stored else if q.overflowed then .report cycle q.lost else .empty cycle
  | .keepNewest =>
    if 0 < q.lost then .report cycle q.lost else if !q.records.isEmpty then .stored else .empty cycle

/-- Byte `k` of a stored record (R148). -/
def Record.byte (r : Record) (k : Fin 6) : Byte :=
  match k with
  | 0 => r.kind.code
  | 1 => r.node
  | 2 => hiByte r.stamp
  | 3 => loByte r.stamp
  | 4 => r.arg0
  | 5 => r.arg1

/-- Byte `k` of an item that is not stored: its kind, node 0xFF, its stamp and a 16-bit argument (R149, R156, R158). -/
def madeUpByte (kind : Byte) (stamp arg : Half) (k : Fin 6) : Byte :=
  match k with
  | 0 => kind
  | 1 => Config.noNode
  | 2 => hiByte stamp
  | 3 => loByte stamp
  | 4 => hiByte arg
  | 5 => loByte arg

/-- Byte `k` of an open item (R148, R156, R158). -/
def Evq.itemByte (q : Evq) (item : OpenItem) (k : Fin 6) : Byte :=
  match item with
  | .stored => (q.records.head?.map fun r => r.byte k).getD 0
  | .report stamp count => madeUpByte 9 stamp (BitVec.ofNat 16 count) k
  | .empty stamp => madeUpByte 15 stamp 0 k

/-- The end of an item at its sixth byte (R156, R157, R153). -/
def Evq.finishItem (q : Evq) (item : OpenItem) : Evq :=
  let q := { q with reading := none }
  match item with
  | .stored => { q with records := q.records.tail }.restartAge
  | .report _ count =>
    { q with lost := q.lost - count, overflowed := q.overflowed && q.policy == .keepOldest && q.lost - count != 0 }
  | .empty _ => q

/-- The item and byte index the next byte read from EVQ_DATA belongs to (R157, step 1). -/
def Evq.current (q : Evq) (cycle : Half) : Reading :=
  match q.reading with
  | some r => r
  | none => { item := q.headItem cycle, next := 0 }

/-- A byte read from EVQ_DATA and the queue after it (R157). -/
def Evq.readByte (q : Evq) (cycle : Half) : Byte × Evq :=
  let r := q.current cycle
  (q.itemByte r.item r.next,
   if r.next = 5 then q.finishItem r.item else { q with reading := some { r with next := r.next + 1 } })

/-! ## Reads -/

/-- The snapshot of both areas (R109, R110). -/
def State.takeSnapshot (s : State) : Snapshot :=
  { status := tabulate 16 fun n => tabulate 8 fun o => (s.node n).statusByte o
    input := tabulate 16 fun n => tabulate 8 fun i => (s.node n).visibleInput i }

/-- The snapshot a byte is returned from: the one held, or a new one (R110). -/
def State.snapshotNow (s : State) : Snapshot := s.port.snapshot.getD s.takeSnapshot

/-- CYCLE_NUMBER as the transfer sees it (R81). -/
def State.cycleSeen (s : State) : Half := s.port.cycleCap.getD s.engine.cycle

/-- EVQ_LOST as the transfer sees it (R155). -/
def State.lostSeen (s : State) : Half := s.port.lostCap.getD (BitVec.ofNat 16 s.evq.lost)

/-- A profile field as it reads (R13). -/
def Profile.get (p : Profile) (f : ProfileField) : Byte :=
  match f with
  | .rate => p.rate
  | .mode => p.mode
  | .setup => p.setup
  | .hold => p.hold
  | .byteGap => p.byteGap
  | .turn => p.turn

/-- A node configuration byte as it reads (R21). -/
def Node.get (x : Node) (f : NodeField) : Byte :=
  match f with
  | .segment => x.segment
  | .address => x.address
  | .profile => x.profile
  | .outLen => x.outLen
  | .inLen => x.inLen
  | .expectType => x.expectType
  | .options => x.options
  | .matchValueHi => x.matchValueHi
  | .matchValueLo => x.matchValueLo
  | .matchMaskHi => x.matchMaskHi
  | .matchMaskLo => x.matchMaskLo

/-- A byte of a transaction entry as it reads (R129). -/
def Txn.get (t : Txn) (f : TxnField) : Byte :=
  match f with
  | .state => t.state.code
  | .gen => t.gen.zeroExtend 8
  | .result => resultField t.result
  | .attempts => byteOf t.attempts
  | .replyStatus => t.replyStatus
  | .node => t.node
  | .op => t.op
  | .regIndex => t.regIndex
  | .count => t.count
  | .wdata i => t.wdata[i]
  | .rdata i => t.rdata[i]

/-- What a register reads as at this moment (R26, R66, R81, R106, R110, R129, R131, R155 to R158, R161, R164, R168,
R169, R175, R178). -/
def State.readReg (s : State) (r : Reg) : Byte :=
  match r with
  | .deviceId => Config.deviceId
  | .revision => Config.revision
  | .cmdArg => s.cmd.arg
  | .cmd => 0
  | .cmdStatus => s.cmd.status.code
  | .startSource => s.engine.source.code
  | .syncEdge => edgeCode s.engine.syncEdge
  | .linkMode => s.engine.linkMode.code
  | .periodHigh => hiByte s.engine.period
  | .periodLow => loByte s.engine.period
  | .schedLen => s.engine.schedLen
  | .retryLimit => s.engine.retryLimit
  | .offlineThreshold => s.engine.offlineThreshold
  | .reprobeInterval => s.engine.reprobeInterval
  | .scanState => s.engine.state.code
  | .cycleHigh => hiByte s.cycleSeen
  | .cycleLow => loByte s.cycleSeen
  | .overrunCount => byteOf s.engine.overruns
  | .evqData => (s.evq.readByte s.engine.cycle).1
  | .evqLevel => byteOf s.evq.records.length
  | .lostHigh => hiByte s.lostSeen
  | .lostLow => loByte s.lostSeen
  | .evqPolicy => s.evq.policy.code
  | .evqStatus => s.evq.statusByte
  | .kindHigh => hiByte s.evq.kindEnable
  | .kindLow => loByte s.evq.kindEnable
  | .attnLevel => s.attn.level
  | .attnDelay => s.attn.delay
  | .attnMask => s.attn.mask
  | .attnCause => s.attnCause
  | .attnHeadAge => byteOf s.evq.headAge
  | .errStatus => s.err.statusByte
  | .errCode => errField s.err.code
  | .errAddrHigh => hiByte (s.err.addr.zeroExtend 16)
  | .errAddrLow => loByte (s.err.addr.zeroExtend 16)
  | .errClear => 0
  | .txnAlloc => s.allocate.1
  | .txnSubmit => 0
  | .txnCancel => 0
  | .txnRelease => 0
  | .txnQueued => byteOf s.order.length
  | .profile p f => s.link.profiles[p].get f
  | .nodeConfig n f => (s.node n).get f
  | .nodeStatus n o => s.snapshotNow.status[n][o]
  | .slot k second => if second then s.slots[k].byte1 else s.slots[k].byte0
  | .output n i => (s.node n).output[i]
  | .input n i => s.snapshotNow.input[n][i]
  | .rise n i => (s.node n).rise[i]
  | .fall n i => (s.node n).fall[i]
  | .txn e f => (s.txn e).get f
  | .undefined => 0

/-- The read effects that belong to a register (R173). -/
def State.readEffect (s : State) (r : Reg) : State :=
  match r with
  | .nodeStatus _ _ => s.modPort fun p => { p with snapshot := some s.snapshotNow }
  | .input _ _ => s.modPort fun p => { p with snapshot := some s.snapshotNow }
  | .cycleHigh => s.modPort fun p => { p with cycleCap := some s.cycleSeen }
  | .cycleLow => s.modPort fun p => { p with cycleCap := some s.cycleSeen }
  | .lostHigh => s.modPort fun p => { p with lostCap := some s.lostSeen }
  | .lostLow => s.modPort fun p => { p with lostCap := some s.lostSeen }
  | .evqData => s.modEvq fun q => (q.readByte s.engine.cycle).2
  | .txnAlloc => s.allocate.2
  | _ => s

end Sys2Proof.Machine
end

