-- ==== Sys2Proof/Machine/Transfer.lean ====
section
/-! DEFINITION. The transfers of the host port, the resets and the clock (R69, R95, R104, R105, R111, R158, R163, R166,
R171 to R180), and the moment every command is taken in. -/

namespace Sys2Proof.Machine

/-! ## Bytes of a transfer -/

/-- A data byte of a write transfer: acknowledged, written at the pointer, and the pointer advanced (R172, R174). -/
def State.dataByte (s : State) (b : Byte) : State :=
  (s.writeReg (regAt s.port.pointer) b).modPort fun p => { p with pointer := nextPointer p.pointer, ack := true }

/-- The 11-bit pointer that two pointer bytes set: bits 7–3 of the high byte are ignored (R172, R174). -/
def pointerOf (high low : Byte) : Addr := (joinBytes high low).extractLsb' 0 11

/-- A byte the host sends within a transfer, taken by the phase (R172). Outside a write transfer the port receives no
byte: it takes no part (R171). -/
def State.receiveByte (s : State) (b : Byte) : State :=
  match s.port.phase with
  | .pointerHigh => s.modPort fun p => { p with phase := .pointerLow, heldHigh := some b, ack := true }
  | .pointerLow => s.modPort fun p =>
      { p with phase := .writeData, pointer := pointerOf (p.heldHigh.getD 0) b, heldHigh := none, ack := true }
  | .writeData => s.dataByte b
  | .idle => s
  | .readData => s
  | .readDone => s

/-- A byte is read: its read effects are taken, it is supplied, and the pointer advances (R173, R174). -/
def State.supplyByte (s : State) : State :=
  let r := regAt s.port.pointer
  let b := s.readReg r
  (s.readEffect r).modPort fun p =>
    { p with pointer := nextPointer p.pointer, readDue := false, sdaByte := some b }

/-- The first byte of a read transfer, if it is still to be read, is read before anything else is taken (R173; DEDUCED,
log entry 4: safe). -/
def State.takeDueRead (s : State) : State := if s.port.readDue then s.supplyByte else s

/-- The host asks for the next byte of a read transfer: the first one, or one after a byte it acknowledged (R173). -/
def State.requestByte (s : State) : State := if s.port.phase = .readData then s.supplyByte else s

/-- The host leaves the acknowledge bit of the last byte high (R173). -/
def State.notAcknowledge (s : State) : State :=
  if s.port.phase = .readData then s.modPort fun p => { p with phase := .readDone, sdaByte := none } else s

/-! ## Commit and the end of a transfer -/

/-- A node's outputs after a commit: staged bytes replace committed ones (R104, step 1). -/
def committed (m : Memory) (n : NodeIx) (old : Vector Byte 8) : Vector Byte 8 :=
  tabulate 8 fun i => (m.read (outputPos n i)).getD old[i]

/-- An output byte that the CYCLIC request carries differs between two images (R95). -/
def carriedChanged (outLen : Byte) (old new : Vector Byte 8) : Bool :=
  (List.finRange 8).any fun i => i.val < outLen.toNat && old[i] != new[i]

/-- A commit sets the due flag of a node (R95). -/
def Node.commitSetsDue (x : Node) (new : Vector Byte 8) : Bool :=
  x.refreshOnWrite && carriedChanged x.outLen x.output new

/-- A node after the commit of a staging buffer (R95, R104). -/
def Node.commit (x : Node) (new : Vector Byte 8) : Node := { x with output := new, due := x.due || x.commitSetsDue new }

/-- The commit sets the due flag of some node of class CYCLIC (R86, R95; DEDUCED, log entry 17: safe). -/
def State.commitClaims (s : State) : Bool :=
  (List.finRange 16).any fun n =>
    (s.node n).serviceClass == .cyclic && (s.node n).commitSetsDue (committed s.port.staging n (s.node n).output)

/-- The commit of the staging, with the due flags and the boundary it may form (R86, R95, R104). -/
def State.commitStaging (s : State) : State :=
  let t : State :=
    { s with
      nodes := tabulate 16 fun n => (s.node n).commit (committed s.port.staging n (s.node n).output)
      port := { s.port with staging := [] } }
  if s.commitClaims then t.idleBoundary else t

/-- An open item closed without being ended (R158). -/
def Evq.close (q : Evq) : Evq := { q with reading := none }

/-- The port back in IDLE, with everything a transfer holds released: held pointer byte, snapshot, captures, staging
(R105, R111, R172, R176, R177). The pointer stays. -/
def Port.release (p : Port) : Port :=
  { p with phase := .idle, heldHigh := none, readDue := false, ack := false, sdaByte := none, softMark := false
           staging := [], snapshot := none, cycleCap := none, lostCap := none }

/-- The straps sampled anew, at whatever levels they then stand (R171; log entry 2). -/
def AdrPins.resample (p : AdrPins) : AdrPins :=
  { levels := Config.strapLevels p.samples, samples := p.samples + 1 }

/-- A soft reset acts: every block takes its reset values and the initialization period begins, in which the straps are
sampled again (R179, R180). -/
def State.softResetAct (s : State) : State :=
  State.atReset (.initializing .softReset Config.initTicks) s.adrPins.resample s.pending

/-- The phases of a write transfer (R172). -/
def PortPhase.writing : PortPhase → Bool
  | .pointerHigh => true
  | .pointerLow => true
  | .writeData => true
  | _ => false

/-- The end of a transfer by STOP or repeated START (R176): only a write transfer holds staging or a soft reset mark. -/
def State.endTransfer (s : State) : State :=
  if s.port.phase = .idle then s
  else if s.port.phase.writing then
    if s.port.softMark then s.softResetAct else s.commitStaging.modPort Port.release
  else (s.modEvq Evq.close).modPort Port.release

/-- The abort of a transfer by a bus timeout (R177). -/
def State.abortTransfer (s : State) : State :=
  if s.port.phase = .idle then s
  else if s.port.phase.writing ∧ s.port.softMark then s.softResetAct
  else (s.modEvq Evq.close).modPort Port.release

/-- The port's own address (R171). -/
def Port.target (p : Port) : BitVec 7 := Config.baseTarget + p.straps.zeroExtend 7

/-- A transfer begins with an acknowledged address byte (R171, R172). -/
def Port.begin (p : Port) (reading : Bool) : Port :=
  { p with phase := if reading then .readData else .pointerHigh, readDue := reading, ack := true, sdaByte := none
           staging := [] }

/-- An address byte after a START. The repeated START of one that arrives in a transfer ends that transfer first (R172;
DEDUCED, log entry 9: safe). -/
def State.takeAddress (s : State) (b : Byte) : State :=
  let s := s.endTransfer
  if s.power = .running ∧ b.extractLsb' 1 7 = s.port.target then s.modPort fun p => p.begin (b.getLsbD 0)
  else s.modPort fun p => { p with ack := false }

/-! ## Resets -/

/-- The reason a device reset leaves in the RESET record: one that began at power-up keeps it (R180; DEDUCED, log entry 20:
safe). -/
def resetReason (before : Power) (cause : ResetCause) : ResetReason :=
  match cause, before with
  | .powerOn, _ => .powerOn
  | .resetPin, .held .powerOn => .powerOn
  | .resetPin, _ => .resetPin

/-- Power-on or assertion of RESET# (R180). -/
def State.deviceReset (s : State) (cause : ResetCause) : State :=
  State.atReset (.held (resetReason s.power cause)) s.adrPins s.pending

/-- The end of a device reset begins the initialization period; the straps are sampled (R171, R180). -/
def State.endDeviceReset (s : State) (straps : BitVec 2) : State :=
  match s.power with
  | .held why =>
    { s with power := .initializing why Config.initTicks, adrPins := { s.adrPins with levels := straps },
             port := { s.port with straps := straps } }
  | _ => s

/-- The end of the initialization period: the RESET record is stored (R163, R180). -/
def State.endInit (s : State) : State :=
  match s.power with
  | .initializing why _ => { s.modEvq (·.append (Record.ofReset why)) with power := .running }
  | _ => s

/-! ## Timers and pins -/

/-- An expiry of the running cycle timer, whatever its count (R69; DESIGN CHOICE, log entry 24: safe). -/
def State.timerExpiry (s : State) : State :=
  match s.engine.timer with
  | some _ => (s.modEngine Engine.loadTimer).cycleStart
  | none => s

/-- A recognised edge on SYNC (R70): each command of this kind is one change of the sampled level (DESIGN CHOICE, log
entry 18: safe). -/
def State.syncEdge (s : State) (e : Edge) : State :=
  if s.engine.source = .sync ∧ s.engine.syncEdge = e then s.cycleStart else s

/-- The head record's age reaches ATTN_DELAY (R166; DESIGN CHOICE, log entry 24: safe). -/
def Evq.reachDelay (q : Evq) (delay : Byte) : Evq :=
  if !q.records.isEmpty && delay != 0 && q.headAge < delay.toNat then { q with headAge := delay.toNat, headSub := 0 }
  else q

/-- One unit of 10 µs of the head-age timer (R166). -/
def Evq.tick (q : Evq) : Evq :=
  if q.records.isEmpty then q
  else if q.headSub + 1 < Config.ticksPerMs then { q with headSub := q.headSub + 1 }
  else { q with headAge := succUpTo 255 q.headAge, headSub := 0 }

/-- 2 µs are over since the last release: a select line that waited for that is driven low (R2). -/
def State.tickLink (s : State) : State := (s.modLink fun l => { l with rested := true }).assertSelect

/-- One unit of the cycle timer (R69). -/
def State.tickTimer (s : State) : State :=
  match s.engine.timer with
  | some k => if 1 < k then s.modEngine fun g => { g with timer := some (k - 1) } else s.timerExpiry
  | none => s

/-- One unit of the initialization period (R180). -/
def State.tickInit (s : State) : State :=
  match s.power with
  | .initializing why k => if 1 < k then { s with power := .initializing why (k - 1) } else s.endInit
  | _ => s

/-! ## The moment of a command -/

/-- A command is taken: the byte of a read transfer that is due is read first (R173), and a retry that a request could
still meet is handed over after it (R18). -/
def State.moment (f : State → State) (s : State) : State := (f s.takeDueRead).handOverRetry

/-- A byte of a read transfer is requested: this is the read that is due, if one is (R173). -/
def State.readMoment (s : State) : State := s.requestByte.handOverRetry

/-- The completion of the exchange on the wire is taken; where a retry waits there is none, and the retry goes first. -/
def State.completionMoment (s : State) (driven : List Byte) (o : RetryOrder) : State :=
  let s := s.takeDueRead
  if s.link.retryWaits then s.handOverRetry else s.completion driven o

/-- What happens in 10 µs without a command: the clocks of the part advance (R2, R69, R166, R180; DESIGN CHOICE, log
entries 7 and 19: unsafe). -/
def State.idleTick (s : State) : State :=
  (s.takeDueRead.handOverRetry.modEvq Evq.tick).tickLink.tickTimer.tickInit

end Sys2Proof.Machine
end

