-- ==== Sys2Proof/Machine/BusEvents.lean ====
section
/-! DEFINITION. The meanings of the bus commands: the bytes and conditions on SDA and SCL (R171 to R177). A byte the host
sends reaches the register at the pointer; the row names the register it is meant for (DESIGN CHOICE, log entries 3 and 5:
safe). -/

namespace Sys2Proof.Machine

open Host (Outcome)

/-- ADDRESS_BYTE (R171, R172). -/
def execAddressByte (b : Byte) (s : State) : Outcome State Fault Refusal :=
  .next (State.moment (·.takeAddress b) s)

/-- POINTER_HIGH_BYTE (R172). -/
def execPointerHighByte (b : Byte) (s : State) : Outcome State Fault Refusal :=
  .next (State.moment (·.receiveByte b) s)

/-- POINTER_LOW_BYTE (R172). -/
def execPointerLowByte (b : Byte) (s : State) : Outcome State Fault Refusal :=
  .next (State.moment (·.receiveByte b) s)

/-- REGISTER_WRITE (R172). -/
def execRegisterWrite (b : Byte) (s : State) : Outcome State Fault Refusal :=
  .next (State.moment (·.receiveByte b) s)

/-- OUTPUT_WRITE (R103). -/
def execOutputWrite (b : Byte) (s : State) : Outcome State Fault Refusal :=
  .next (State.moment (·.receiveByte b) s)

/-- OPTIONS_WRITE (R24, R124). -/
def execOptionsWrite (b : Byte) (s : State) : Outcome State Fault Refusal :=
  .next (State.moment (·.receiveByte b) s)

/-- SLOT_WRITE (R62, R64). -/
def execSlotWrite (b : Byte) (s : State) : Outcome State Fault Refusal :=
  .next (State.moment (·.receiveByte b) s)

/-- CYCLE_PERIOD_WRITE (R68). -/
def execCyclePeriodWrite (b : Byte) (s : State) : Outcome State Fault Refusal :=
  .next (State.moment (·.receiveByte b) s)

/-- HOST_ERR_CLEAR (R169). -/
def execHostErrClear (b : Byte) (s : State) : Outcome State Fault Refusal :=
  .next (State.moment (·.receiveByte b) s)

/-- SNAPSHOT_READ (R110, R173). -/
def execSnapshotRead (s : State) : Outcome State Fault Refusal := .next s.readMoment

/-- CYCLE_NUMBER_READ (R81, R173). -/
def execCycleNumberRead (s : State) : Outcome State Fault Refusal := .next s.readMoment

/-- EVQ_LOST_READ (R155, R173). -/
def execEvqLostRead (s : State) : Outcome State Fault Refusal := .next s.readMoment

/-- EVQ_DATA_READ (R157, R173). -/
def execEvqDataRead (s : State) : Outcome State Fault Refusal := .next s.readMoment

/-- ALLOC (R133, R173). -/
def execAlloc (s : State) : Outcome State Fault Refusal := .next s.readMoment

/-- SUBMIT (R134): the handle is the byte written. -/
def execSubmit (handle : Byte) (s : State) : Outcome State Fault Refusal :=
  .next (State.moment (·.receiveByte handle) s)

/-- CANCEL (R141 to R143): the handle is the byte written. -/
def execCancel (handle : Byte) (s : State) : Outcome State Fault Refusal :=
  .next (State.moment (·.receiveByte handle) s)

/-- RELEASE (R144): the handle is the byte written. -/
def execRelease (handle : Byte) (s : State) : Outcome State Fault Refusal :=
  .next (State.moment (·.receiveByte handle) s)

/-- TRANSFER_END (R176). -/
def execTransferEnd (s : State) : Outcome State Fault Refusal := .next (State.moment State.endTransfer s)

/-- BUS_TIMEOUT (R177). -/
def execBusTimeout (s : State) : Outcome State Fault Refusal := .next (State.moment State.abortTransfer s)

/-- HOST_NOT_ACKNOWLEDGE (R173). -/
def execHostNotAcknowledge (s : State) : Outcome State Fault Refusal := .next (State.moment State.notAcknowledge s)

end Sys2Proof.Machine
end

