-- ==== Sys2Proof/Machine/CommandBytes.lean ====
section
/-! DEFINITION. The meanings of the commands of the command register: each is the byte of its code, written at CMD (R178). -/

namespace Sys2Proof.Machine

open Host (Outcome)

/-- START_SCAN (R72). -/
def execStartScan (s : State) : Outcome State Fault Refusal :=
  .next (State.moment (·.receiveByte Config.codeStartScan) s)

/-- STOP_SCAN (R78, R79). -/
def execStopScan (s : State) : Outcome State Fault Refusal :=
  .next (State.moment (·.receiveByte Config.codeStopScan) s)

/-- TRIGGER_CYCLE (R71). -/
def execTriggerCycle (s : State) : Outcome State Fault Refusal :=
  .next (State.moment (·.receiveByte Config.codeTriggerCycle) s)

/-- NODE_ENABLE (R29, R30). -/
def execNodeEnable (s : State) : Outcome State Fault Refusal :=
  .next (State.moment (·.receiveByte Config.codeNodeEnable) s)

/-- NODE_DISABLE (R31, R32). -/
def execNodeDisable (s : State) : Outcome State Fault Refusal :=
  .next (State.moment (·.receiveByte Config.codeNodeDisable) s)

/-- NODE_REPROBE (R33, R34). -/
def execNodeReprobe (s : State) : Outcome State Fault Refusal :=
  .next (State.moment (·.receiveByte Config.codeNodeReprobe) s)

/-- EVQ_FLUSH (R159). -/
def execEvqFlush (s : State) : Outcome State Fault Refusal :=
  .next (State.moment (·.receiveByte Config.codeEvqFlush) s)

/-- SCAN_CLEAR (R82 and each owner's rule). -/
def execScanClear (s : State) : Outcome State Fault Refusal :=
  .next (State.moment (·.receiveByte Config.codeScanClear) s)

/-- SOFT_RESET (R179). -/
def execSoftReset (s : State) : Outcome State Fault Refusal :=
  .next (State.moment (·.receiveByte Config.codeSoftReset) s)

/-- UNKNOWN_COMMAND (R178): the code byte is the operand. -/
def execUnknownCommand (code : Byte) (s : State) : Outcome State Fault Refusal :=
  .next (State.moment (·.receiveByte code) s)

end Sys2Proof.Machine
end

