-- ==== Sys2Proof/Machine/PartEvents.lean ====
section
/-! DEFINITION. The meanings of the events that are not bus traffic: resets, timers, SYNC and the scan link. An event that
cannot occur in a state has no effect there (DEDUCED, log entry 8: safe). -/

namespace Sys2Proof.Machine

open Host (Outcome)

/-- DEVICE_RESET (R177, R180). -/
def execDeviceReset (cause : ResetCause) (s : State) : Outcome State Fault Refusal :=
  .next (State.moment (·.deviceReset cause) s)

/-- DEVICE_RESET_END (R180). -/
def execDeviceResetEnd (straps : BitVec 2) (s : State) : Outcome State Fault Refusal :=
  .next (State.moment (·.endDeviceReset straps) s)

/-- INIT_PERIOD_END (R163, R180). -/
def execInitPeriodEnd (s : State) : Outcome State Fault Refusal := .next (State.moment State.endInit s)

/-- CYCLE_TIMER_EXPIRY (R69, R73, R74). -/
def execCycleTimerExpiry (s : State) : Outcome State Fault Refusal := .next (State.moment State.timerExpiry s)

/-- SYNC_INPUT_EDGE (R70, R73, R74). -/
def execSyncInputEdge (edge : Edge) (s : State) : Outcome State Fault Refusal :=
  .next (State.moment (·.syncEdge edge) s)

/-- SELECT_ASSERT (R2, R3). -/
def execSelectAssert (s : State) : Outcome State Fault Refusal := .next (State.moment State.assertSelect s)

/-- EXCHANGE_COMPLETION (R3, R10 to R12, R17, R86). -/
def execExchangeCompletion (reply : List Byte) (order : RetryOrder) (s : State) : Outcome State Fault Refusal :=
  .next (s.completionMoment reply order)

/-- ATTN_DELAY_EXPIRY (R166). -/
def execAttnDelayExpiry (s : State) : Outcome State Fault Refusal :=
  .next (State.moment (fun t => t.modEvq fun q => q.reachDelay t.attn.delay) s)

end Sys2Proof.Machine
end

