-- ==== Sys2Proof/Machine/Dispatch.lean ====
section
/-! DEFINITION. Each command and its meaning. -/

namespace Sys2Proof.Machine

/-- The effect of a command on everything but the queue of commands. -/
def exec (i : Instr) (s : State) : Host.Outcome State Fault Refusal :=
  match i with
  | .addressByte b => Sys2Proof.Machine.execAddressByte b s
  | .pointerHighByte b => Sys2Proof.Machine.execPointerHighByte b s
  | .pointerLowByte b => Sys2Proof.Machine.execPointerLowByte b s
  | .registerWrite b => Sys2Proof.Machine.execRegisterWrite b s
  | .outputWrite b => Sys2Proof.Machine.execOutputWrite b s
  | .optionsWrite b => Sys2Proof.Machine.execOptionsWrite b s
  | .slotWrite b => Sys2Proof.Machine.execSlotWrite b s
  | .cyclePeriodWrite b => Sys2Proof.Machine.execCyclePeriodWrite b s
  | .hostErrClear b => Sys2Proof.Machine.execHostErrClear b s
  | .snapshotRead => Sys2Proof.Machine.execSnapshotRead s
  | .cycleNumberRead => Sys2Proof.Machine.execCycleNumberRead s
  | .evqLostRead => Sys2Proof.Machine.execEvqLostRead s
  | .evqDataRead => Sys2Proof.Machine.execEvqDataRead s
  | .alloc => Sys2Proof.Machine.execAlloc s
  | .submit handle => Sys2Proof.Machine.execSubmit handle s
  | .cancel handle => Sys2Proof.Machine.execCancel handle s
  | .release handle => Sys2Proof.Machine.execRelease handle s
  | .startScan => Sys2Proof.Machine.execStartScan s
  | .stopScan => Sys2Proof.Machine.execStopScan s
  | .triggerCycle => Sys2Proof.Machine.execTriggerCycle s
  | .nodeEnable => Sys2Proof.Machine.execNodeEnable s
  | .nodeDisable => Sys2Proof.Machine.execNodeDisable s
  | .nodeReprobe => Sys2Proof.Machine.execNodeReprobe s
  | .evqFlush => Sys2Proof.Machine.execEvqFlush s
  | .scanClear => Sys2Proof.Machine.execScanClear s
  | .softReset => Sys2Proof.Machine.execSoftReset s
  | .unknownCommand code => Sys2Proof.Machine.execUnknownCommand code s
  | .transferEnd => Sys2Proof.Machine.execTransferEnd s
  | .busTimeout => Sys2Proof.Machine.execBusTimeout s
  | .deviceReset cause => Sys2Proof.Machine.execDeviceReset cause s
  | .deviceResetEnd straps => Sys2Proof.Machine.execDeviceResetEnd straps s
  | .initPeriodEnd => Sys2Proof.Machine.execInitPeriodEnd s
  | .cycleTimerExpiry => Sys2Proof.Machine.execCycleTimerExpiry s
  | .syncInputEdge edge => Sys2Proof.Machine.execSyncInputEdge edge s
  | .selectAssert => Sys2Proof.Machine.execSelectAssert s
  | .exchangeCompletion reply order => Sys2Proof.Machine.execExchangeCompletion reply order s
  | .attnDelayExpiry => Sys2Proof.Machine.execAttnDelayExpiry s
  | .hostNotAcknowledge => Sys2Proof.Machine.execHostNotAcknowledge s

end Sys2Proof.Machine
end

