-- ==== Sys2Proof/Machine/Step.lean ====
section
/-! DEFINITION. One step of the block: the command at the front of the queue, or 10 µs of its clocks when none waits. -/

namespace Sys2Proof.Machine

/-- The command at the front of the queue is taken with the rest of the queue behind it; on an empty queue the block
idles for one unit of its clock (DESIGN CHOICE, log entry 7: unsafe). -/
def step (s : State) : Host.Outcome State Fault Refusal :=
  match s.pending with
  | [] => .next s.idleTick
  | c :: rest => exec c { s with pending := rest }

/-- The command a word spells, put at the front of the queue; a word that spells none leaves the state (log entry 21). -/
def State.withFetchWord (s : State) (nbits w : Nat) : State :=
  match decodeTableWord nbits w with
  | some c => { s with pending := c :: s.pending }
  | none => s

end Sys2Proof.Machine
end

