-- ==== Sys2Proof/Safety.lean ====
section
/-! DEFINITION. What holds of every state the part can be in: the invariants of its blocks, and the positions of the
host port in which a byte reaches a register. -/

namespace Sys2Proof

/-- The byte that a command sends to the port, for the rows that are a byte of a write transfer (R172, R178). -/
def Instr.sentByte : Instr → Option Byte
  | .pointerHighByte b => some b
  | .pointerLowByte b => some b
  | .registerWrite b => some b
  | .outputWrite b => some b
  | .optionsWrite b => some b
  | .slotWrite b => some b
  | .cyclePeriodWrite b => some b
  | .hostErrClear b => some b
  | .submit h => some h
  | .cancel h => some h
  | .release h => some h
  | .startScan => some 0x01
  | .stopScan => some 0x02
  | .triggerCycle => some 0x03
  | .nodeEnable => some 0x10
  | .nodeDisable => some 0x11
  | .nodeReprobe => some 0x12
  | .evqFlush => some 0x20
  | .scanClear => some 0x30
  | .softReset => some 0x5A
  | .unknownCommand code => some code
  | _ => none

/-- The command asks for a byte of a read transfer (R173). -/
def Instr.asksByte : Instr → Bool
  | .snapshotRead => true
  | .cycleNumberRead => true
  | .evqLostRead => true
  | .evqDataRead => true
  | .alloc => true
  | _ => false

end Sys2Proof

namespace Sys2Proof.Machine

/-! ## Positions of the host port -/

/-- The port is about to receive a data byte of a write transfer at address `a` (R172). -/
abbrev State.writingAt (s : State) (a : Addr) : Prop :=
  s.port.readDue = false ∧ s.port.phase = .writeData ∧ s.port.pointer = a

/-- The port is about to return a byte of a read transfer from address `a` (R172, R173). -/
abbrev State.readingAt (s : State) (a : Addr) : Prop :=
  s.port.phase = .readData ∧ s.port.pointer = a

/-- The port after it has taken a data byte of a write transfer (R172, R174). -/
def Port.tookByte (p : Port) : Port := { p with pointer := nextPointer p.pointer, ack := true }

/-- The port after it has begun to return byte `b` of a read transfer (R173, R174). -/
def Port.gaveByte (p : Port) (b : Byte) : Port :=
  { p with pointer := nextPointer p.pointer, readDue := false, sdaByte := some b }

/-! ## What belongs to the host -/

/-- What the host alone writes in a node entry and its tables: configuration, committed outputs and change masks. -/
def Node.hostSide (x : Node) : List Byte :=
  [x.segment, x.address, x.profile, x.outLen, x.inLen, x.expectType, x.options, x.matchValueHi, x.matchValueLo,
   x.matchMaskHi, x.matchMaskLo] ++ x.output.toList ++ x.rise.toList ++ x.fall.toList

/-- The request fields of a transaction entry (R129). -/
def Txn.request (t : Txn) : List Byte := [t.node, t.op, t.regIndex, t.count] ++ t.wdata.toList

/-- The scan engine with everything but the scan configuration registers taken out (R66). -/
def Engine.registers (g : Engine) : Engine :=
  { Engine.reset with
    source := g.source, syncEdge := g.syncEdge, linkMode := g.linkMode, period := g.period
    pendingHigh := g.pendingHigh, schedLen := g.schedLen, retryLimit := g.retryLimit
    offlineThreshold := g.offlineThreshold, reprobeInterval := g.reprobeInterval }

/-- The event queue with everything but its registers and the open item taken out (R150, R157, R160). -/
def Evq.registers (q : Evq) : Evq :=
  { Evq.reset with policy := q.policy, kindEnable := q.kindEnable, reading := q.reading }

/-- Nothing that belongs to the host differs between two states: the port with its transfer and error capture, the
registers, the schedule, the node configuration, outputs and masks, and the request fields of the transactions. -/
structure State.HostSideKept (s t : State) : Prop where
  power : t.power = s.power
  slots : t.slots = s.slots
  attn : t.attn = s.attn
  err : t.err = s.err
  port : t.port = s.port
  adrPins : t.adrPins = s.adrPins
  pending : t.pending = s.pending
  arg : t.cmd.arg = s.cmd.arg
  profiles : t.link.profiles = s.link.profiles
  engine : t.engine.registers = s.engine.registers
  evq : t.evq.registers = s.evq.registers
  node : ∀ n, (t.node n).hostSide = (s.node n).hostSide
  txn : ∀ e, (t.txn e).request = (s.txn e).request

/-! ## The boundary at the end of a work item -/

/-- An event before it is stamped: kind, node field, arg0 and arg1 (R148, R149). -/
abbrev Event := EventKind × Byte × Byte × Byte

/-- Events produced one after the other, each disposed of before the next (R151). -/
def State.emits (s : State) (events : List Event) : State :=
  events.foldl (fun t e => t.emit e.1 e.2.1 e.2.2.1 e.2.2.2) s

/-- The NODE_STATE event of a change of state; a state that stays gives none (R59). -/
def stateEvents (n : NodeIx) (old new : NodeState) : List Event :=
  if old = new then [] else [(.nodeState, BitVec.ofNat 8 n.val, new.code, old.code)]

/-- The NODE_ALERT event of a delivered status byte whose ALERT bit differs from the alert level (R43). -/
def alertEvents (n : NodeIx) (level : Bool) (status : Option Byte) : List Event :=
  match status with
  | some st =>
    if st.getLsbD 4 = level then []
    else [(.nodeAlert, BitVec.ofNat 8 n.val, st, if st.getLsbD 4 then 1 else 0)]
  | none => []

/-- A node after the node command that waited for its work item, if one did (R31 to R34). -/
def Node.afterCommand (x : Node) (c : Option NodeCmd) : Node :=
  match c with
  | none => x
  | some .disable => { x with state := .disabled, due := false, matchState := false, inputAge := 255, reprobe := 0 }
  | some .reprobe => { x with state := .probing, failCount := 0, matchState := false, reprobe := 0 }

/-- The engine's counts after a work item of a class with an outcome: only slot work is counted (R76). -/
def Engine.counted (g : Engine) (c : WorkClass) (o : LinkOutcome) : Engine :=
  if c = .slot then
    { g with
      evaluated := g.evaluated + 1
      failed := if o = .ok ∨ o = .busy then g.failed else g.failed + 1 }
  else g

/-- The state from which the choice at a completion boundary is made (R86), where the owner's evaluation of work item `w`
leaves its node as `x` and the engine as `g` and produces `events`. Its node command that waited completes, with its
NODE_STATE event (R32, R34); then an engine in DRAINING enters STOPPED with its own events (R80); CMD_STATUS becomes OK
where it still waited for one of the two (R28). -/
def State.atBoundary (s : State) (w : WorkItem) (x : Node) (g : Engine) (events : List Event) : State :=
  let y := x.afterCommand w.nodeCmd
  let drained := s.engine.state = .draining
  let stopping : List Event := if drained then
    (if 0 < g.dropped then [(.cycleOverrun, 0xFF, BitVec.ofNat 8 g.dropped, 0)] else []) ++ [(.scanState, 0xFF, 0, 2)]
    else []
  let completed := (w.nodeCmd ≠ none ∧ s.cmd.awaited = some .nodeCommand) ∨ (drained ∧ s.cmd.awaited = some .stopScan)
  State.emits { s with
    link := { s.link with rested := false, work := none }
    nodes := s.nodes.set w.node y
    engine := if drained then { g with state := .stopped, timer := none, evaluated := 0, failed := 0, dropped := 0 } else g
    cmd := if completed then { s.cmd with status := .ok, awaited := none } else s.cmd }
    (events ++ stateEvents w.node x.state y.state ++ stopping)

/-- A node at the outcome of the last attempt of a CYCLIC work item or a probe that neither succeeded nor was refused: it
is noted, and unless it is BUSY it counts as a failure (R41 to R43, R45 to R47, R51, R52). -/
def Node.afterLastAttempt (x : Node) (g : Engine) (op : LinkOp) (r : Completion) : Node :=
  let count := min 15 (x.failCount + 1)
  let noted : Node := { x with
    lastOutcome := some r.outcome, lastStatus := r.status.getD x.lastStatus
    alert := (r.status.map fun st => st.getLsbD 4).getD x.alert }
  if r.outcome = .busy then noted
  else if x.state = .offline ∨ g.offlineThreshold.toNat ≤ count then { noted with
    state := .offline, failCount := count, reprobe := g.reprobeInterval.toNat, matchState := false }
  else { noted with state := if op = .cyclic then .suspect else x.state, failCount := count }

/-- A transaction entry at the outcome of the last attempt of its work item that neither succeeded nor was refused (R138,
R142). -/
def Txn.afterLastAttempt (t : Txn) (r : Completion) : Txn :=
  { t with
    state := if t.cancelMark then .cancelled else .failed
    result := some (if t.cancelMark then .cancelled else .link r.outcome)
    replyStatus := r.status.getD 0, rdata := Vector.replicate 8 0, cancelMark := false }

/-- The state from which the choice is made where a request withdraws the pending retry of work item `w`, whose last
completed attempt left record `r` (R18): that outcome is evaluated in full, then the request takes its effect, be it the node
command in `w` or the end of DRAINING. No select line is released at it. -/
def State.withdrawn (s : State) (w : WorkItem) (r : Completion) : State :=
  let old := s.node w.node
  let u := match w.cls with
    | .txn h =>
      let t := s.txn (entryOf h)
      State.atBoundary { s with txns := s.txns.set (entryOf h) (t.afterLastAttempt r) } w old s.engine
        [(.txnEnd, t.node, h, if t.cancelMark then 7 else r.outcome.code)]
    | c =>
      let new := old.afterLastAttempt s.engine w.op r
      s.atBoundary w new (s.engine.counted c r.outcome)
        (alertEvents w.node old.alert r.status ++ stateEvents w.node old.state new.state)
  { u with link := { s.link with work := none } }

/-- The state after the hand-over of an attempt of work item `w`: exchange `x` is in flight, SCK idles by its MODE, and an
attempt that carries the output image clears the node's due flag (R2, R4, R96, R107). -/
def State.withExchange (s : State) (w : WorkItem) (x : Exchange) : State :=
  { s with
    link := { s.link with work := some { w with phase := .inFlight x }, sckMode := x.profile.mode }
    nodes := s.nodes.set w.node { s.node w.node with due := (s.node w.node).due && x.op != .cyclic } }

/-! ## The staging buffer and the host port -/

/-- The staging buffer is in canonical form and lies in the 128 positions of the output window (R103). -/
def State.stagingSound (s : State) : Bool := s.port.staging.wf && s.port.staging.all fun c => decide (c.1 < 128)

/-- A transfer in a phase holds only what that phase can hold (R172, R176): a read transfer no staging and no soft reset
mark, a write transfer no snapshot, capture or open item, and IDLE nothing at all. -/
def State.portSound (s : State) : Bool :=
  let p := s.port
  let noRead := p.snapshot.isNone && p.cycleCap.isNone && p.lostCap.isNone && s.evq.reading.isNone && !p.readDue
  let noWrite := p.staging.isEmpty && !p.softMark && p.heldHigh.isNone
  match p.phase with
  | .idle => noRead && noWrite
  | .pointerHigh => noRead && noWrite
  | .pointerLow => noRead && p.staging.isEmpty && !p.softMark && p.heldHigh.isSome
  | .writeData => noRead && p.heldHigh.isNone
  | .readData => noWrite
  | .readDone => noWrite && !p.readDue

/-! ## The event queue -/

/-- The queue's bounds and its loss state (R150 to R157, R166). -/
def Evq.sound (q : Evq) : Bool :=
  decide (q.records.length ≤ Config.queueDepth) && decide (q.lost ≤ Config.lostMax)
    && (match q.policy with
        | .keepOldest => q.overflowed == decide (0 < q.lost)
        | .keepNewest => !q.overflowed)
    && (q.kindEnable &&& ~~~(0x01DE : Half) == 0)
    && decide (q.headAge ≤ 255) && decide (q.headSub < Config.ticksPerMs)
    && (!q.records.isEmpty || (q.headAge == 0 && q.headSub == 0))
    && (!q.headOpen || !q.records.isEmpty)

/-! ## The registers the host writes -/

/-- Every field of a profile is in its legal range (R13). -/
def Profile.legal (p : Profile) : Bool :=
  ProfileField.legal .rate p.rate && ProfileField.legal .mode p.mode && ProfileField.legal .setup p.setup
    && ProfileField.legal .hold p.hold && ProfileField.legal .byteGap p.byteGap && ProfileField.legal .turn p.turn

/-- Both bytes of a slot are legal (R62). -/
def Slot.legal (sl : Slot) : Bool := slotByte0Legal sl.byte0 && slotByte1Legal sl.byte1

/-- The scan configuration group is in its legal ranges (R66). -/
def Engine.configLegal (g : Engine) : Bool :=
  g.period != 0 && decide (g.schedLen.toNat ≤ 32) && decide (g.retryLimit.toNat ≤ 7)
    && decide (1 ≤ g.offlineThreshold.toNat) && decide (g.offlineThreshold.toNat ≤ 15) && g.reprobeInterval != 0

/-- The attention registers are in their legal ranges (R164). -/
def Attn.legal (a : Attn) : Bool :=
  decide (1 ≤ a.level.toNat) && decide (a.level.toNat ≤ 32) && decide (a.mask.toNat ≤ 3)

/-- The configuration bytes of a node entry that are range-checked when written are in range (R22, R24). -/
def Node.configLegal (x : Node) : Bool :=
  decide (x.segment.toNat ≤ 3) && decide (x.address.toNat ≤ 31) && decide (x.profile.toNat ≤ 3)
    && decide (x.options.toNat ≤ 7)

/-- Every register the host writes holds a legal value. -/
def State.registersLegal (s : State) : Bool :=
  ((List.finRange 4).all fun p => s.link.profiles[p].legal) && ((List.finRange 32).all fun k => s.slots[k].legal)
    && s.engine.configLegal && s.attn.legal && ((List.finRange 16).all fun n => (s.node n).configLegal)

/-! ## Nodes -/

/-- A node is identified: its link service is CYCLIC (R38, R39). -/
def NodeState.identified (x : NodeState) : Bool := x == .online || x == .suspect

/-- A node is being identified: its link service is, or may become, a probe (R38, R39). -/
def NodeState.probed (x : NodeState) : Bool := x == .probing || x == .offline

/-- The supervision state of one node agrees with itself (R24, R29, R38, R44 to R51, R54, R125). -/
def Node.sound (x : Node) : Bool :=
  decide (x.failCount ≤ 15) && decide (x.reprobe ≤ 255) && decide (x.inputAge ≤ 255)
    && (x.state != .online || x.failCount == 0)
    && (x.state != .suspect || decide (1 ≤ x.failCount))
    && (x.state == .offline || x.reprobe == 0)
    && (!x.matchState || (x.state.identified && x.matchEnable))
    && (x.state == .disabled || (decide (x.outLen.toNat ≤ 8) && decide (x.inLen.toNat ≤ 8)))
    && (!(x.state == .disabled || x.state == .mismatch) || x.inputAge == 255)

/-- Every node's supervision state agrees with itself. -/
def State.nodesSound (s : State) : Bool := (List.finRange 16).all fun n => (s.node n).sound

/-- No two nodes in service share a SEGMENT and an ADDRESS (R29). -/
def State.addressesDistinct (s : State) : Bool :=
  (List.finRange 16).all fun n => (s.node n).state == .disabled || !s.duplicate n

/-! ## The scan engine -/

/-- The work item in progress is slot work. -/
def Link.slotWork (l : Link) : Bool :=
  match l.work with
  | some w => w.cls == .slot
  | none => false

/-- The engine's bounds, its timer and its per-cycle counts (R63, R65, R69, R74, R76, R77, R80). -/
def State.engineSound (s : State) : Bool :=
  let g := s.engine
  let slotNow := if s.link.slotWork then 1 else 0
  decide (g.latchedLen ≤ 32) && decide (g.cursor ≤ 32) && decide (g.overruns ≤ 255) && decide (g.dropped ≤ 255)
    && (match g.timer with
        | some k => decide (1 ≤ k) && g.source == .timer && g.state != .stopped
        | none => g.state == .stopped || g.source != .timer)
    && (match g.state with
        | .stopped => g.evaluated == 0 && g.failed == 0 && g.dropped == 0
        | .waiting => g.evaluated == 0 && g.failed == 0 && g.dropped == 0
        | .cycling => decide (g.evaluated + slotNow ≤ g.cursor) && decide (g.failed ≤ g.evaluated)
        | .draining => decide (g.evaluated + slotNow ≤ g.cursor) && decide (g.failed ≤ g.evaluated))

/-! ## The work item -/

/-- The latched values of an exchange agree with the node's registers for as long as it lasts (R2, R16). -/
def State.exchangeAgrees (s : State) (w : WorkItem) (x : Exchange) : Bool :=
  let y := s.node w.node
  x.node == w.node && x.op == w.op && x.toggle == w.toggle && x.segment == y.segment && x.address == y.address
    && x.profile == s.profileOf y && x.replyLen == s.replyLength w.cls w.op w.node

/-- A pending retry belongs to its work item and can go out: its attempt was within RETRY_LIMIT, at most 7 (R17, R18). -/
def State.retryAgrees (s : State) (w : WorkItem) (r : Completion) : Bool :=
  r.node == w.node && r.op == w.op && r.toggle == w.toggle && r.outcome.retryable && !w.suppressed
    && s.engine.state != .draining && decide (w.attempt ≤ 7)

/-- The class, the op and the node's state of a work item fit (R16, R40), and a transaction's entry is the ACTIVE one it
is named by (R94, R136). -/
def State.classAgrees (s : State) (w : WorkItem) : Bool :=
  let st := (s.node w.node).state
  match w.cls with
  | .slot =>
    (s.engine.state == .cycling || s.engine.state == .draining)
      && ((w.op == .cyclic && st.identified) || (w.op == .ident && st.probed))
  | .urgent => w.op == .cyclic && st.identified
  | .gapProbe => w.op == .ident && st.probed
  | .txn h =>
    let t := s.txn (entryOf h)
    t.state == .active && h == s.handle (entryOf h) && w.op == opOf t.op && w.node == t.nodeIx && st.identified
      && t.attempts + (match w.phase with | .inFlight _ => 1 | .retryPending _ => 0) == w.attempt

/-- The work item the Link Controller holds agrees with the rest of the part; DRAINING lasts only while one has an attempt
in flight (R12, R16, R19, R79). -/
def State.workSound (s : State) : Bool :=
  match s.link.work with
  | none => s.engine.state != .draining
  | some w =>
    (match w.phase with
     | .inFlight x => s.exchangeAgrees w x
     | .retryPending r => s.retryAgrees w r)
      && s.classAgrees w && w.toggle == (s.node w.node).newToggle w.op
      && decide (1 ≤ w.attempt) && decide (w.attempt ≤ 8)
      && (w.nodeCmd.isNone || w.suppressed) && (s.engine.state != .draining || w.suppressed)

/-! ## The Transaction Table -/

/-- Entry `e` is the one whose work item is in progress. -/
def Link.carries (l : Link) (e : TxnIx) : Bool :=
  match l.work with
  | some w => match w.cls with
    | .txn h => entryOf h == e
    | _ => false
  | none => false

/-- The result fields of an entry fit its state (R133, R137, R138, R141, R142). -/
def Txn.sound (t : Txn) : Bool :=
  decide (t.attempts ≤ 8) && (!t.cancelMark || t.state == .active)
    && (match t.state with
        | .free => true
        | .reserved => t.result.isNone && t.attempts == 0
        | .queued => t.result.isNone && t.attempts == 0 && t.rangesLegal
        | .active => t.result.isNone && t.rangesLegal
        | .done => t.result == some (.link .ok)
        | .failed => t.result.isSome && t.result != some (.link .ok) && t.result != some .cancelled
        | .cancelled => t.result == some .cancelled)

/-- The pending order holds exactly the QUEUED entries, each once (R135), and an entry is ACTIVE exactly while its work
item is in progress (R94). -/
def State.txnsSound (s : State) : Bool :=
  s.order.Nodup
    && ((List.finRange 8).all fun e =>
          (s.txn e).sound && (s.order.contains e == ((s.txn e).state == .queued))
            && (s.link.carries e == ((s.txn e).state == .active)))

/-! ## All of it -/

/-- While a device reset lasts and through the initialization period every block holds its reset values (R180). -/
def State.heldAtReset (s : State) : Bool :=
  s.power == .running || s == State.atReset s.power s.adrPins s.pending

/-- A state the part can be in: every block is sound. -/
def State.sound (s : State) : Bool :=
  s.stagingSound && s.portSound && s.evq.sound && s.registersLegal && s.nodesSound && s.addressesDistinct
    && s.engineSound && s.workSound && s.txnsSound && s.heldAtReset

end Sys2Proof.Machine
end

