-- ==== Sys2Proof/Certificates/Slice0/Obligations.lean ====
section
/-! DEFINITION. What is claimed of the part, stated from the manual's rules: for each command what state it leaves, and
what every step keeps. A whole next state written as an update of the old one says that nothing else changes. -/

open Sys2Proof Sys2Proof.Machine

/-! ## Steps -/

/-- A step takes the command at the front of the queue and runs it with the rest of the queue behind it. -/
def Obligations.StepTakesFrontCommand : Prop :=
  ∀ (c : Instr) (rest : List Instr) (s : State), s.pending = c :: rest →
    step s = exec c { s with pending := rest }

/-- Every command of the table answers a next state in every state, and leaves the queue of waiting commands. -/
def Obligations.EveryCommandAnswers : Prop :=
  ∀ (c : Instr) (s : State), ∃ t, exec c s = .next t ∧ t.pending = s.pending

/-- The model's choice (log entries 7 and 19): with no command waiting a step is 10 µs of the part's clocks. The head record
ages (R166), the 2 µs after the last release are over and a select line that waited goes low (R2), the cycle timer counts
down and runs out as the event CYCLE_TIMER_EXPIRY (R69), and the initialization period counts down and ends as the event
INIT_PERIOD_END (R180). -/
def Obligations.IdleStepIsClockTick : Prop :=
  ∀ s : State, s.pending = [] → s.port.readDue = false → (∀ w l, s.link.work = some w → w.phase ≠ .retryPending l) →
    let q := s.evq
    let aged : Evq :=
      if q.records = [] then q
      else if q.headSub + 1 < 100 then { q with headSub := q.headSub + 1 }
      else { q with headSub := 0, headAge := if q.headAge < 255 then q.headAge + 1 else q.headAge }
    let lowered (w : WorkItem) : WorkItem :=
      match w.phase with
      | .inFlight x => { w with phase := .inFlight { x with selected := true } }
      | .retryPending _ => w
    let ticked : State := { s with
      evq := aged, link := { s.link with rested := true, work := s.link.work.map lowered } }
    (s.power = .running → s.engine.timer = none → step s = .next ticked) ∧
    (∀ k, s.power = .running → s.engine.timer = some k → 1 < k →
      step s = .next { ticked with engine := { s.engine with timer := some (k - 1) } }) ∧
    (∀ k, s.power = .running → s.engine.timer = some k → k ≤ 1 → step s = exec .cycleTimerExpiry ticked) ∧
    (∀ why k, s.power = .initializing why k → s.engine.timer = none →
      (1 < k → step s = .next { ticked with power := .initializing why (k - 1) }) ∧
      (k ≤ 1 → step s = exec .initPeriodEnd ticked)) ∧
    (∀ why, s.power = .held why → s.engine.timer = none → step s = .next ticked)

/-! ## What every step keeps -/

/-- The state after reset is sound in every block. -/
def Obligations.ResetStateSound : Prop := State.reset.sound = true

/-- R172, R176: no step leaves the port holding what its phase cannot hold, and the staging buffer keeps its canonical
form within the output window. -/
def Obligations.PortStaysSound : Prop :=
  ∀ s t : State, s.portSound = true → s.stagingSound = true → step s = .next t →
    t.portSound = true ∧ t.stagingSound = true

/-- R151 to R157, R166: no step takes the queue beyond its bounds or lets its loss state disagree with its lost count. -/
def Obligations.QueueStaysSound : Prop :=
  ∀ s t : State, s.evq.sound = true → s.heldAtReset = true → step s = .next t → t.evq.sound = true

/-- Every register that is range-checked holds a legal value after every step. -/
def Obligations.RegistersStayLegal : Prop :=
  ∀ s t : State, s.registersLegal = true → step s = .next t → t.registersLegal = true

/-- R180: while a device reset lasts and through the initialization period every block holds its reset values. -/
def Obligations.ResetHoldsEveryBlock : Prop :=
  ∀ s t : State, s.heldAtReset = true → step s = .next t → t.heldAtReset = true

/-- R38, R44 to R54, R125: the supervision state of every node goes on agreeing with itself; in ONLINE FAIL_COUNT is 0. -/
def Obligations.NodesStaySound : Prop :=
  ∀ s t : State, s.sound = true → step s = .next t → t.nodesSound = true

/-- R29: no two nodes that are not DISABLED ever share a SEGMENT and an ADDRESS. -/
def Obligations.AddressesStayDistinct : Prop :=
  ∀ s t : State, s.sound = true → step s = .next t → t.addressesDistinct = true

/-- R69, R74, R76, R77, R80: the engine's counts stay within their bounds and its timer runs exactly while it should. -/
def Obligations.EngineStaysSound : Prop :=
  ∀ s t : State, s.sound = true → step s = .next t → t.engineSound = true

/-- R2, R12, R16, R79: the latched values of the exchange in flight go on agreeing with the registers, and DRAINING lasts
only while the drained work item has an attempt in flight. -/
def Obligations.WorkItemStaysSound : Prop :=
  ∀ s t : State, s.sound = true → step s = .next t → t.workSound = true

/-- R94, R135, R140: the pending order holds exactly the QUEUED entries, each once, and at most one entry is ACTIVE, the
one whose work item is in progress. -/
def Obligations.TransactionsStaySound : Prop :=
  ∀ s t : State, s.sound = true → step s = .next t → t.txnsSound = true

/-! ## The scan link -/

/-- R7 to R11: the assembled reply is what nodes drove, and ones where none did (that bytes driven beyond its end are not sampled
is the model's reading, log entry 12); its outcome is decided by the first condition of the table that holds, and its code is
what LAST_OUTCOME and RESULT show. The completion record holds what the exchange latched, the status byte for OK, BUSY and
REFUSED, and for OK the payload between the status byte and the check byte. -/
def Obligations.ReplyClassification : Prop :=
  (∀ (x : Exchange) (attempt : Nat) (driven : List Byte),
    let reply := x.replyBytes driven
    let status := reply.headD 0xFF
    let checked : Prop := reply.getLastD 0xFF = checkByte reply.dropLast
    let o := (x.complete attempt driven).outcome
    let r := x.complete attempt driven
    reply.length = 1 + x.replyLen + 1 ∧
    (∀ i < 1 + x.replyLen + 1, reply[i]? = some (driven.getD i 0xFF)) ∧
    status = driven.getD 0 0xFF ∧ reply.getLastD 0xFF = driven.getD (1 + x.replyLen) 0xFF ∧
    (r.node = x.node ∧ r.op = x.op ∧ r.toggle = x.toggle ∧ r.attempt = attempt) ∧
    r.status = (if o = .ok ∨ o = .busy ∨ o = .refused then some (driven.getD 0 0xFF) else none) ∧
    r.payload = (if o = .ok then (List.range x.replyLen).map (fun k => driven.getD (1 + k) 0xFF) else []) ∧
    (o = .noReply ↔ status.getLsbD 7 = true) ∧
    (o = .checkError ↔ status.getLsbD 7 = false ∧ ¬ checked) ∧
    (o = .seqError ↔ status.getLsbD 7 = false ∧ checked ∧ status.getLsbD 5 ≠ x.toggle) ∧
    (o = .busy ↔ status.getLsbD 7 = false ∧ checked ∧ status.getLsbD 5 = x.toggle ∧ status.getLsbD 3 = true) ∧
    (o = .refused ↔ status.getLsbD 7 = false ∧ checked ∧ status.getLsbD 5 = x.toggle ∧ status.getLsbD 3 = false ∧
      status.getLsbD 6 = false) ∧
    (o = .ok ↔ status.getLsbD 7 = false ∧ checked ∧ status.getLsbD 5 = x.toggle ∧ status.getLsbD 3 = false ∧
      status.getLsbD 6 = true)) ∧
  ([LinkOutcome.ok, .noReply, .checkError, .seqError, .busy, .refused].map fun o =>
    (outcomeField (some o), resultField (some (.link o)))) = [(0, 0), (1, 1), (2, 2), (3, 3), (4, 4), (5, 5)]

/-- R2, R5 to R7, R15, R107, R129: what an exchange latches at its hand-over, its select line going low then where the link
has rested; the request it puts on the wire, the reply it expects and the time it takes; the op codes, in the header and in
the OP byte of a transaction; and what the check byte computes. The levels on SCK and SDO over the whole exchange last twice as
many sixteenths of a microsecond as its duration has eighths; where in a bit its edges stand is the model's choice (log
entries 26 and 27) and is not stated. -/
def Obligations.RequestFrame : Prop :=
  let step (w : Byte) : Byte := if w.toNat < 128 then w <<< 1 else (w <<< 1) ^^^ 0x2F
  (checkByte [] = 0xFF ∧ ∀ (covered : List Byte) (b : Byte),
    checkByte (covered ++ [b]) = step (step (step (step (step (step (step (step (checkByte covered ^^^ b))))))))) ∧
  [LinkOp.cyclic, .readReg, .writeReg, .ident].map LinkOp.code = [0, 1, 2, 3] ∧
  ([1, 2, 3] : List Byte).map opOf = [.readReg, .writeReg, .ident] ∧
  ∀ (s : State) (n : NodeIx) (h : Byte) (toggle : Bool),
    let y := s.node n
    let t := s.txn (entryOf h)
    let sent (x : Exchange) (payload : List Byte) (q : Nat) : Prop :=
      x.payload = payload ∧ x.replyLen = q ∧
      x.header.toNat = 8 * (y.address.toNat % 32) + 2 * x.op.code.toNat + toggle.toNat ∧
      x.request = (x.header :: payload) ++ [checkByte (x.header :: payload)] ∧
      x.duration =
        (x.request.length + x.profile.turn.toNat + 1 + q + 1) * 8 * 2 ^ x.profile.rate.toNat +
        (x.request.length + x.profile.turn.toNat + 1 + q) * x.profile.byteGap.toNat * 2 ^ x.profile.rate.toNat +
        4 * (x.profile.setup.toNat + x.profile.hold.toNat) ∧
      (x.signal.map LineSpan.duration).sum = 2 * x.duration
    (∀ (c : WorkClass) (op : LinkOp),
      let x := s.latch c op n toggle
      x.node = n ∧ x.segment = y.segment ∧ x.address = y.address ∧ x.op = op ∧ x.toggle = toggle ∧
      x.selected = s.link.rested ∧ ∀ p : ProfileIx, p.val = y.profile.toNat → x.profile = s.link.profiles[p]) ∧
    (∀ c : WorkClass, sent (s.latch c .cyclic n toggle) (y.output.toList.take y.outLen.toNat) y.inLen.toNat) ∧
    (∀ c : WorkClass, sent (s.latch c .ident n toggle) [] 3) ∧
    sent (s.latch (.txn h) .readReg n toggle) [t.regIndex, t.count] t.count.toNat ∧
    sent (s.latch (.txn h) .writeReg n toggle) (t.regIndex :: t.wdata.toList.take t.count.toNat) 0

/-- R1, R2, R4: the select line of a handed-over exchange is driven low, and SDO takes the first bit of H; nothing else
changes. With no exchange in flight, and until the line goes low, SDO is high and so is every select line. SCK stands at the
idle level of the MODE of the last exchange. -/
def Obligations.SelectAssertDrivesLine : Prop :=
  (∀ s : State, s.sckRest = true ↔ s.link.sckMode = 2 ∨ s.link.sckMode = 3) ∧
  (∀ s : State, (∀ w x, s.link.work = some w → w.phase = .inFlight x → x.selected = false) →
    s.sdoRest = true ∧ ∀ k, s.selectLow k = false) ∧
  ∀ (s : State) (w : WorkItem) (x : Exchange), s.port.readDue = false → s.link.work = some w → w.phase = .inFlight x →
    (∃ t, exec .selectAssert s = .next t ∧
      t = { s with link := { s.link with
        rested := true, work := some { w with phase := .inFlight { x with selected := true } } } } ∧
      t.sdoRest = x.header.getLsbD 7 ∧ ∀ k : Fin 4, t.selectLow k = (x.segment == byteOf k.val))

/-- R2, R16 to R18, R96, R107, R136: a retryable outcome within RETRY_LIMIT and without suppression or DRAINING is retried
with the same op, node and toggle, at the same boundary or, where a request meets it there, after that request. The retry's
exchange is latched from the state at its own hand-over, committed outputs included; the completed attempt of a transaction
is counted in its entry. -/
def Obligations.RetryFollowsAttempt : Prop :=
  (∀ s : State, (∀ w r, s.link.work = some w → w.phase ≠ .retryPending r) → s.handOverRetry = s) ∧
  (∀ (s : State) (w : WorkItem) (r : Completion), s.link.work = some w → w.phase = .retryPending r →
    s.engine.state ≠ .draining →
    let y := s.latch w.cls w.op w.node w.toggle
    s.handOverRetry = s.withExchange { w with attempt := w.attempt + 1 } y ∧
    y.node = w.node ∧ y.op = w.op ∧ y.toggle = w.toggle ∧ y.selected = s.link.rested ∧
    s.HostSideKept s.handOverRetry) ∧
  (∀ (s : State) (w : WorkItem) (x : Exchange) (driven : List Byte),
    s.port.readDue = false → s.link.work = some w → w.phase = .inFlight x → x.selected = true →
    (x.complete w.attempt driven).outcome ≠ .ok → (x.complete w.attempt driven).outcome ≠ .refused →
    w.attempt ≤ s.engine.retryLimit.toNat → w.suppressed = false → s.engine.state ≠ .draining →
    let counted : State := { s with
      link := { s.link with rested := false }
      txns := match w.cls with
        | .txn h => s.txns.set (entryOf h) { s.txn (entryOf h) with attempts := (s.txn (entryOf h)).attempts + 1 }
        | _ => s.txns }
    let y := counted.latch w.cls w.op w.node w.toggle
    (∃ t, exec (.exchangeCompletion driven .retryFirst) s = .next t ∧
      t = counted.withExchange { w with attempt := w.attempt + 1 } y ∧
      y.node = w.node ∧ y.op = w.op ∧ y.toggle = w.toggle ∧ y.selected = false ∧ s.HostSideKept t) ∧
    (∃ t, exec (.exchangeCompletion driven .requestFirst) s = .next t ∧
      t = { counted with link := { counted.link with
        work := some { w with phase := .retryPending (x.complete w.attempt driven) } } } ∧ s.HostSideKept t))

/-- R41 to R47, R59, R76, R80, R86, R108, R118 to R124, R12: the final outcome of a CYCLIC work item, with its events in
their order, the cycle's counts, the node command that waited and the end of DRAINING: the choice is made from exactly this
state, and touches no more of a node than its due flag and gap-probe mark. -/
def Obligations.CyclicOutcomeEvaluated : Prop :=
  ∀ (s : State) (w : WorkItem) (x : Exchange) (driven : List Byte) (order : RetryOrder) (changed : Byte),
    s.sound = true → s.port.readDue = false → s.link.work = some w → w.phase = .inFlight x → x.selected = true →
    w.op = .cyclic →
    (w.suppressed = true ∨ s.engine.retryLimit.toNat < w.attempt ∨
      (x.complete w.attempt driven).outcome = .ok ∨ (x.complete w.attempt driven).outcome = .refused) →
    let r := x.complete w.attempt driven
    let old := s.node w.node
    let n := BitVec.ofNat 8 w.node.val
    let image := tabulate 8 fun i => r.payload.getD i.val 0
    (∀ i : ByteIx, changed.getLsbD i.val = true ↔ ∃ k : Fin 8,
      (old.input[i].getLsbD k.val = false ∧ image[i].getLsbD k.val = true ∧ old.rise[i].getLsbD k.val = true) ∨
      (old.input[i].getLsbD k.val = true ∧ image[i].getLsbD k.val = false ∧ old.fall[i].getLsbD k.val = true)) →
    let count := min 15 (old.failCount + 1)
    let enabled := old.options.getLsbD 1
    let agrees := image[0] &&& old.matchMaskHi == old.matchValueHi &&& old.matchMaskHi &&
      image[1] &&& old.matchMaskLo == old.matchValueLo &&& old.matchMaskLo
    let noted : Node := { old with
      lastOutcome := some r.outcome, lastStatus := r.status.getD old.lastStatus
      alert := (r.status.map fun st => st.getLsbD 4).getD old.alert }
    let new : Node :=
      if r.outcome = .ok then { noted with
        state := .online, failCount := 0, inputAge := 0, seq := w.toggle, input := image, baseline := false
        matchState := enabled && agrees }
      else if r.outcome = .busy then noted
      else if s.engine.offlineThreshold.toNat ≤ count then { noted with
        state := .offline, failCount := count, reprobe := s.engine.reprobeInterval.toNat, matchState := false }
      else { noted with state := .suspect, failCount := count }
    let moved : List Event := if old.baseline = true ∨ changed = 0 then [] else [(.inputChange, n, changed, 1)]
    let matched : List Event :=
      if enabled && agrees && !old.matchState then [(.matchEvent, n, 1, image[0])]
      else if enabled && old.options.getLsbD 2 && old.matchState && !agrees then [(.matchEvent, n, 0, image[0])] else []
    let u := s.atBoundary w new (s.engine.counted w.cls r.outcome)
      (alertEvents w.node old.alert r.status ++ (if r.outcome = .ok then moved ++ matched else []) ++
        stateEvents w.node old.state new.state)
    ∃ t, exec (.exchangeCompletion driven order) s = .next t ∧ t = u.choose ∧ s.HostSideKept t ∧
      r.status.isSome = (r.outcome == .ok || r.outcome == .busy || r.outcome == .refused) ∧
      (r.outcome = .ok → r.payload.length = old.inLen.toNat) ∧
      ∀ m, t.node m = { u.node m with due := (t.node m).due, gapMark := (t.node m).gapMark }

/-- R41 to R43, R49 to R52, R59, R76, R80, R86, R12: the final outcome of a probe, with its events in their order, the
cycle's counts, the node command that waited and the end of DRAINING: the choice is made from exactly this state, and
touches no more of a node than its due flag and gap-probe mark. -/
def Obligations.ProbeOutcomeEvaluated : Prop :=
  ∀ (s : State) (w : WorkItem) (x : Exchange) (driven : List Byte) (order : RetryOrder),
    s.sound = true → s.port.readDue = false → s.link.work = some w → w.phase = .inFlight x → x.selected = true →
    w.op = .ident → (w.cls = .slot ∨ w.cls = .gapProbe) →
    (w.suppressed = true ∨ s.engine.retryLimit.toNat < w.attempt ∨
      (x.complete w.attempt driven).outcome = .ok ∨ (x.complete w.attempt driven).outcome = .refused) →
    let r := x.complete w.attempt driven
    let old := s.node w.node
    let count := min 15 (old.failCount + 1)
    let type := r.payload.getD 0 0
    let out := r.payload.getD 1 0
    let inp := r.payload.getD 2 0
    let noted : Node := { old with
      lastOutcome := some r.outcome, lastStatus := r.status.getD old.lastStatus
      alert := (r.status.map fun st => st.getLsbD 4).getD old.alert }
    let reported : Node := { noted with
      reportedType := type, reportedOut := BitVec.ofNat 4 (min 15 out.toNat)
      reportedIn := BitVec.ofNat 4 (min 15 inp.toNat), failCount := 0, reprobe := 0, seq := false }
    let new : Node :=
      if r.outcome = .ok then
        (if (old.expectType = 0 ∨ old.expectType = type) ∧ out = old.outLen ∧ inp = old.inLen then
          { reported with state := .online, baseline := true }
        else { reported with state := .mismatch, matchState := false, inputAge := 255 })
      else if r.outcome = .busy then noted
      else if old.state = .offline ∨ s.engine.offlineThreshold.toNat ≤ count then { noted with
        state := .offline, failCount := count, reprobe := s.engine.reprobeInterval.toNat, matchState := false }
      else { noted with failCount := count }
    let u := s.atBoundary w new (s.engine.counted w.cls r.outcome)
      (alertEvents w.node old.alert r.status ++ stateEvents w.node old.state new.state)
    ∃ t, exec (.exchangeCompletion driven order) s = .next t ∧ t = u.choose ∧ s.HostSideKept t ∧
      ∀ m, t.node m = { u.node m with due := (t.node m).due, gapMark := (t.node m).gapMark }

/-- R12, R40, R56, R57, R80, R86, R136, R138 to R140, R142: the final outcome of a transaction ends its entry, once, with
its TXN_END; supervision hears of an IDENT answered OK first, and of nothing else. The node command that waited and the end
of DRAINING follow: the choice is made from exactly this state. -/
def Obligations.TransactionOutcomeEndsEntry : Prop :=
  ∀ (s : State) (w : WorkItem) (x : Exchange) (h : Byte) (driven : List Byte) (order : RetryOrder),
    s.sound = true → s.port.readDue = false → s.link.work = some w → w.phase = .inFlight x → x.selected = true →
    w.cls = .txn h →
    (w.suppressed = true ∨ s.engine.retryLimit.toNat < w.attempt ∨
      (x.complete w.attempt driven).outcome = .ok ∨ (x.complete w.attempt driven).outcome = .refused) →
    let r := x.complete w.attempt driven
    let old := s.node w.node
    let request := s.txn (entryOf h)
    let type := r.payload.getD 0 0
    let out := r.payload.getD 1 0
    let inp := r.payload.getD 2 0
    let toggled : Node := { old with seq := if r.outcome = .ok then w.toggle else old.seq }
    let reported : Node := { toggled with
      reportedType := type, reportedOut := BitVec.ofNat 4 (min 15 out.toNat)
      reportedIn := BitVec.ofNat 4 (min 15 inp.toNat) }
    let new : Node :=
      if w.op = .ident ∧ r.outcome = .ok then
        (if (old.expectType = 0 ∨ old.expectType = type) ∧ out = old.outLen ∧ inp = old.inLen then reported
        else { reported with state := .mismatch, matchState := false, inputAge := 255 })
      else toggled
    let entry : Txn := { request with
      attempts := request.attempts + 1, replyStatus := r.status.getD 0, cancelMark := false
      state := if r.outcome = .ok then .done else if request.cancelMark then .cancelled else .failed
      result := some (if r.outcome = .ok then .link .ok else if request.cancelMark then .cancelled else .link r.outcome)
      rdata := if r.outcome = .ok then tabulate 8 fun i => r.payload.getD i.val 0 else Vector.replicate 8 0 }
    let code : Byte := if r.outcome = .ok then 0 else if request.cancelMark then 7 else r.outcome.code
    let u := State.atBoundary { s with txns := s.txns.set (entryOf h) entry } w new s.engine
      (stateEvents w.node old.state new.state ++ [(.txnEnd, request.node, h, code)])
    ∃ t, exec (.exchangeCompletion driven order) s = .next t ∧ t = u.choose ∧ s.HostSideKept t ∧
      t.txn (entryOf h) = entry ∧
      ∀ m, t.node m = { u.node m with due := (t.node m).due, gapMark := (t.node m).gapMark }

/-! ## The arbiter and the cycle -/

/-- R2, R12, R16, R63, R75, R84, R85, R87 to R94, R96, R107, R136, R137: what the choice at a boundary hands over, in each
engine state, and the whole state that leaves: the exchange latched from the state at the choice, its due flag cleared where
it carries the output image, and the record of the previous work item; that a picked request whose node is not of class
CYCLIC ends as NODE_UNAVAILABLE and the choice begins again; and that it hands over nothing where no class claims the link. -/
def Obligations.ChoiceFollowsOrder : Prop :=
  ∀ s : State, s.link.work = none →
    let cyclic (n : NodeIx) : Prop := (s.node n).state = .online ∨ (s.node n).state = .suspect
    let probe (n : NodeIx) : Prop := (s.node n).state = .probing ∨ ((s.node n).state = .offline ∧ (s.node n).reprobe = 0)
    let due (n : NodeIx) : Prop := (s.node n).due = true ∧ cyclic n
    let scheduled (n : NodeIx) : Prop :=
      ∃ k : SlotIx, k.val < s.engine.latchedLen ∧ s.slots[k].enabled = true ∧ s.slots[k].node = n
    let gap (n : NodeIx) : Prop := probe n ∧ ¬ scheduled n ∧ (s.node n).gapMark = false
    let slot (k : SlotIx) : Prop :=
      s.engine.cursor ≤ k.val ∧ k.val < s.engine.latchedLen ∧ s.slots[k].enabled = true ∧
      s.engine.cycle.toNat % s.slots[k].divisor = s.slots[k].phase ∧ (cyclic s.slots[k].node ∨ probe s.slots[k].node)
    let held : Prop := s.link.prev = .urgent ∨ ∀ n, ¬ due n
    let admitted : Prop :=
      s.engine.linkMode = .txnFirst ∨ (s.engine.linkMode = .interleave ∧ s.link.prev = .slot)
    let resting : Prop := s.engine.state = .stopped ∨ (s.engine.state = .waiting ∧ ∀ n, ¬ gap n)
    let handed (u : State) (p : PrevWork) (c : WorkClass) (op : LinkOp) (n : NodeIx) : Prop :=
      let toggle := if op = .ident then false else !(s.node n).seq
      let x := s.latch c op n toggle
      let w : WorkItem := {
        cls := c, op := op, node := n, toggle := toggle, attempt := 1, suppressed := false, nodeCmd := none
        phase := .inFlight x }
      s.choose = State.withExchange { u with link := { s.link with prev := p } } w x
    let handedTxn (e : TxnIx) (rest : List TxnIx) : Prop :=
      handed { s with order := rest, txns := s.txns.set e { s.txn e with state := .active } } .txn
        (.txn (s.handle e)) (opOf (s.txn e).op) (s.txn e).nodeIx
    let handedSlot (k : SlotIx) (op : LinkOp) : Prop :=
      handed { s with engine := { s.engine with cursor := k.val + 1 } } .slot .slot op s.slots[k].node
    (s.engine.state = .draining → s.choose = s) ∧
    (∀ n, s.engine.state ≠ .draining → s.link.prev ≠ .urgent → due n → (∀ m < n, ¬ due m) →
      handed s .urgent .urgent .cyclic n) ∧
    (∀ e rest, s.engine.state = .cycling → held → admitted → s.order = e :: rest → cyclic (s.txn e).nodeIx →
      handedTxn e rest) ∧
    (∀ k, s.engine.state = .cycling → held → ¬ admitted ∨ s.order = [] → slot k → (∀ j < k, ¬ slot j) →
      (cyclic s.slots[k].node → handedSlot k .cyclic) ∧ (probe s.slots[k].node → handedSlot k .ident)) ∧
    (∀ n, s.engine.state = .waiting → held → gap n → (∀ m < n, ¬ gap m) →
      handed { s with nodes := s.nodes.set n { s.node n with gapMark := true } } .gapProbe .gapProbe .ident n) ∧
    (∀ e rest, resting → held → s.order = e :: rest → cyclic (s.txn e).nodeIx → handedTxn e rest) ∧
    (∀ e rest, held → (s.engine.state = .cycling ∧ admitted) ∨ resting → s.order = e :: rest → ¬ cyclic (s.txn e).nodeIx →
      s.choose = State.choose (State.emit { s with
        order := rest
        txns := s.txns.set e { s.txn e with
          state := .failed, result := some .nodeUnavailable, attempts := 0, replyStatus := 0
          rdata := Vector.replicate 8 0, cancelMark := false } } .txnEnd (s.txn e).node (s.handle e) 6)) ∧
    (∀ n, resting → held → s.order = [] → due n → (∀ m < n, ¬ due m) → handed s .urgent .urgent .cyclic n) ∧
    (resting → s.order = [] → (∀ n, ¬ due n) → s.choose = s)

/-- R75, R77, R89, R90, R92, R93: where CYCLING finds no class with work the cycle ends: no urgent refresh is due, or the
previous work was one; LINK_MODE does not admit the requests, or there is none; and no applicable slot is left. Its counts are
reported and cleared, the engine enters WAITING with every gap-probe mark cleared, and the choice goes on there. -/
def Obligations.CycleEndReportsAndWaits : Prop :=
  ∀ s : State, s.engine.state = .cycling →
    (s.link.prev = .urgent ∨
      ∀ n, (s.node n).due = true → (s.node n).state ≠ .online ∧ (s.node n).state ≠ .suspect) →
    (s.order = [] ∨ s.engine.linkMode = .scanFirst ∨ (s.engine.linkMode = .interleave ∧ s.link.prev ≠ .slot)) →
    (∀ k : SlotIx, s.engine.cursor ≤ k.val → k.val < s.engine.latchedLen → s.slots[k].enabled = true →
      s.engine.cycle.toNat % s.slots[k].divisor = s.slots[k].phase →
      (s.node s.slots[k].node).state = .disabled ∨ (s.node s.slots[k].node).state = .mismatch ∨
      ((s.node s.slots[k].node).state = .offline ∧ (s.node s.slots[k].node).reprobe ≠ 0)) →
    let done := s.emit .cycleDone 0xFF (BitVec.ofNat 8 s.engine.evaluated) (BitVec.ofNat 8 s.engine.failed)
    let reported := if 0 < s.engine.dropped
      then done.emit .cycleOverrun 0xFF (BitVec.ofNat 8 s.engine.dropped) 0 else done
    s.choose = State.choose { reported with
      engine := { s.engine with
        state := .waiting, cursor := s.engine.latchedLen, evaluated := 0, failed := 0, dropped := 0 }
      nodes := tabMap (fun x => { x with gapMark := false }) s.nodes }

/-- R108, R118 to R124: the store of a reply: bytes beyond it are 0; with the baseline flag set there is no INPUT_CHANGE and
the flag is cleared; else one INPUT_CHANGE carries the mask of the bytes that moved in a selected direction, if any did;
then the match word is compared and a reported transition gives a MATCH event. -/
def Obligations.StoreDetectsChanges : Prop :=
  ∀ (s : State) (n : NodeIx) (payload : List Byte) (changed : Byte),
    let x := s.node n
    let image := tabulate 8 fun i => payload.getD i.val 0
    (∀ i : ByteIx, changed.getLsbD i.val = true ↔ ∃ k : Fin 8,
      (x.input[i].getLsbD k.val = false ∧ image[i].getLsbD k.val = true ∧ x.rise[i].getLsbD k.val = true) ∨
      (x.input[i].getLsbD k.val = true ∧ image[i].getLsbD k.val = false ∧ x.fall[i].getLsbD k.val = true)) →
    let enabled := x.options.getLsbD 1
    let agrees := image[0] &&& x.matchMaskHi == x.matchValueHi &&& x.matchMaskHi &&
      image[1] &&& x.matchMaskLo == x.matchValueLo &&& x.matchMaskLo
    let became := enabled && agrees && !x.matchState
    let left := enabled && x.options.getLsbD 2 && x.matchState && !agrees
    let stored : State := { s with
      nodes := s.nodes.set n { x with input := image, baseline := false, matchState := enabled && agrees } }
    let noted := if x.baseline = true ∨ changed = 0 then stored
      else stored.emit .inputChange (BitVec.ofNat 8 n.val) changed 1
    s.storeInput n payload = (if became then noted.emit .matchEvent (BitVec.ofNat 8 n.val) 1 image[0]
      else if left then noted.emit .matchEvent (BitVec.ofNat 8 n.val) 0 image[0] else noted)

/-! ## Transfers of the host port -/

/-- R171, R172, R174: the port answers 0x58 plus its straps, with either direction bit, outside resets, and nothing else;
an address byte within a transfer ends that transfer first; the two pointer bytes of a write transfer set the eleven bits
of the pointer and change nothing else. -/
def Obligations.AddressAndPointerBytes : Prop :=
  (∀ p : Port, p.target.toNat = 0x58 + p.straps.toNat) ∧
  (∀ (s : State) (b : Byte), s.port.readDue = false → s.port.phase = .idle → s.power = .running →
    b.toNat / 2 = s.port.target.toNat →
    exec (.addressByte b) s = .next (State.handOverRetry { s with port := { s.port with
      phase := if b.toNat % 2 = 1 then .readData else .pointerHigh, readDue := b.toNat % 2 == 1, ack := true
      sdaByte := none, staging := [] } })) ∧
  (∀ (s : State) (b : Byte), s.port.readDue = false → s.port.phase = .idle →
    (s.power ≠ .running ∨ b.toNat / 2 ≠ s.port.target.toNat) →
    exec (.addressByte b) s = .next (State.handOverRetry { s with port := { s.port with ack := false } })) ∧
  (∀ (s : State) (b : Byte), s.port.readDue = false →
    ∃ t, exec .transferEnd s = .next t ∧ t.port.phase = .idle ∧ exec (.addressByte b) s = exec (.addressByte b) t) ∧
  (∀ (s : State) (b : Byte), s.port.readDue = false → s.port.phase = .pointerHigh →
    exec (.pointerHighByte b) s = .next (State.handOverRetry { s with port := { s.port with
      phase := .pointerLow, heldHigh := some b, ack := true } })) ∧
  (∀ (s : State) (high b : Byte), s.port.readDue = false → s.port.phase = .pointerLow → s.port.heldHigh = some high →
    ∃ a : Addr, a.toNat = (256 * high.toNat + b.toNat) % 2048 ∧
      exec (.pointerLowByte b) s = .next (State.handOverRetry { s with port := { s.port with
        phase := .writeData, heldHigh := none, ack := true, pointer := a } }))

/-- R172, R174, R178: every data byte of a write transfer is acknowledged whatever its register does with it, the
transfer goes on, and the pointer advances but at the three ports; a byte sent outside a write transfer is taken by
nobody. The row of the byte does not matter (log entry 3). -/
def Obligations.DataByteAcknowledged : Prop :=
  (∀ a : Addr, nextPointer a = if a = 0x009 ∨ a = 0x020 ∨ a = 0x038 then a else a + 1) ∧
  ((∀ b : Byte, [Instr.pointerHighByte b, .pointerLowByte b, .registerWrite b, .outputWrite b, .optionsWrite b, .slotWrite b,
      .cyclePeriodWrite b, .hostErrClear b, .submit b, .cancel b, .release b, .unknownCommand b].map Instr.sentByte =
      List.replicate 12 (some b)) ∧
    [Instr.startScan, .stopScan, .triggerCycle, .nodeEnable, .nodeDisable, .nodeReprobe, .evqFlush, .scanClear,
      .softReset].map Instr.sentByte =
      [some 0x01, some 0x02, some 0x03, some 0x10, some 0x11, some 0x12, some 0x20, some 0x30, some 0x5A]) ∧
  (∀ (c : Instr) (b : Byte) (s : State), c.sentByte = some b → s.port.readDue = false → s.port.phase = .writeData →
    ∃ t, exec c s = .next t ∧ t.port.phase = .writeData ∧ t.port.ack = true ∧ t.port.straps = s.port.straps ∧
      t.port.pointer.toNat =
        (if s.port.pointer.toNat = 0x009 ∨ s.port.pointer.toNat = 0x020 ∨ s.port.pointer.toNat = 0x038
        then s.port.pointer.toNat else (s.port.pointer.toNat + 1) % 2048)) ∧
  (∀ (c : Instr) (b : Byte) (s : State), c.sentByte = some b → s.port.readDue = false →
    (s.port.phase = .idle ∨ s.port.phase = .readData ∨ s.port.phase = .readDone) →
    exec c s = .next (State.handOverRetry s)) ∧
  (∀ (c c' : Instr) (b : Byte) (s : State), c.sentByte = some b → c'.sentByte = some b → exec c s = exec c' s)

/-- R105, R173, R176, R177: a byte the host does not acknowledge is the last one read; the end of a read transfer, and a
bus timeout of any transfer without a soft reset mark, release what the transfer held, staging uncommitted, and change
nothing else; outside a transfer both have no effect. The first byte of a read transfer is read before whatever command
comes next, and every read row reads at the pointer (log entries 4 and 5). -/
def Obligations.TransferReleasesWhatItHeld : Prop :=
  (∀ (c r : Instr) (s t : State), c.asksByte = false → r.asksByte = true → s.port.readDue = true →
    s.port.phase = .readData → (∀ w l, s.link.work = some w → w.phase ≠ .retryPending l) →
    exec r s = .next t → exec c s = exec c t) ∧
  (∀ s : State, s.port.readDue = false →
    let released : State := { s with
      evq := { s.evq with reading := none }
      port := { s.port with
        phase := .idle, heldHigh := none, readDue := false, ack := false, sdaByte := none, softMark := false
        staging := [], snapshot := none, cycleCap := none, lostCap := none } }
    (s.port.phase = .readData →
      exec .hostNotAcknowledge s = .next (State.handOverRetry { s with
        port := { s.port with phase := .readDone, sdaByte := none } })) ∧
    (∀ c : Instr, c.asksByte = true → s.port.phase = .readDone → exec c s = .next (State.handOverRetry s)) ∧
    (s.port.phase = .readData ∨ s.port.phase = .readDone → exec .transferEnd s = .next (State.handOverRetry released)) ∧
    (s.port.phase ≠ .idle → s.port.softMark = false → exec .busTimeout s = .next (State.handOverRetry released)) ∧
    (s.port.phase = .idle →
      exec .transferEnd s = .next (State.handOverRetry s) ∧ exec .busTimeout s = .next (State.handOverRetry s)))

/-- R103: a data byte for the output window is staged at its position, and the committed images stay. -/
def Obligations.OutputWriteIsStaged : Prop :=
  ∀ (s : State) (n : NodeIx) (i : ByteIx) (b : Byte),
    s.writingAt (BitVec.ofNat 11 (0x300 + 8 * n.val + i.val)) →
    ∃ staging : Memory,
      exec (.outputWrite b) s = .next (State.handOverRetry { s with
        port := { s.port.tookByte with staging := staging } }) ∧
      ∀ k, staging.read k = if k = 8 * n.val + i.val then some b else s.port.staging.read k

/-- R86, R95, R104, R176: the end of a write transfer replaces every staged byte in one step and leaves the others, clears
the marks and sets the due flags that the changed bytes call for. On a busy link nothing more happens than that a waiting
retry goes out; on an idle one the choice is made in the state so committed where a node of class CYCLIC gained a due flag
(that a flag which stood already counts is the model's reading, log entry 17), and nothing more happens where none did. -/
def Obligations.CommitReplacesOutputs : Prop :=
  ∀ s : State, s.port.readDue = false →
    (s.port.phase = .pointerHigh ∨ s.port.phase = .pointerLow ∨ s.port.phase = .writeData) →
    s.port.softMark = false →
    let output (n : NodeIx) : Vector Byte 8 :=
      tabulate 8 fun i => (s.port.staging.read (8 * n.val + i.val)).getD (s.node n).output[i]
    let changed (n : NodeIx) : Bool := (s.node n).options.getLsbD 0 &&
      (List.finRange 8).any fun i => i.val < (s.node n).outLen.toNat && (s.node n).output[i] != (output n)[i]
    let committed : State := { s with
      nodes := tabulate 16 fun n => { s.node n with output := output n, due := (s.node n).due || changed n }
      port := { s.port with
        phase := .idle, heldHigh := none, readDue := false, ack := false, sdaByte := none, softMark := false
        staging := [], snapshot := none, cycleCap := none, lostCap := none } }
    let claims : Prop := ∃ n, ((s.node n).state = .online ∨ (s.node n).state = .suspect) ∧ changed n = true
    (s.link.work ≠ none → exec .transferEnd s = .next committed.handOverRetry) ∧
    (s.link.work = none → claims → exec .transferEnd s = .next committed.choose) ∧
    (s.link.work = none → ¬ claims → exec .transferEnd s = .next committed) ∧
    ∃ t, exec .transferEnd s = .next t ∧
      (∀ (n : NodeIx) (i : ByteIx),
        (t.node n).output[i] = (s.port.staging.read (8 * n.val + i.val)).getD (s.node n).output[i]) ∧
      t.port = committed.port ∧ t.err = s.err ∧ t.cmd = s.cmd ∧ t.attn = s.attn

/-- R106: a read of the output window returns the committed byte, never a staged one, takes no snapshot, and no command
of a read transfer changes a committed byte. That every read row reads at the pointer is the model's choice (log entry 5). -/
def Obligations.OutputReadIsCommitted : Prop :=
  (∀ (c : Instr) (s : State) (n : NodeIx) (i : ByteIx), c.asksByte = true →
    s.readingAt (BitVec.ofNat 11 (0x300 + 8 * n.val + i.val)) →
    exec c s = .next (State.handOverRetry { s with port := s.port.gaveByte (s.node n).output[i] })) ∧
  (∀ (c : Instr) (s t : State), (s.port.phase = .readData ∨ s.port.phase = .readDone) →
    (∀ cause, c ≠ .deviceReset cause) → exec c s = .next t → ∀ n, (t.node n).output = (s.node n).output)

/-- R109, R110: the first byte read from the status area or the input window captures both areas whole; every later byte
of the transfer comes from that capture. Input bytes from IN_LEN on read 0. The eight bytes of a status block are laid out
as R26 has them. -/
def Obligations.SnapshotIsTakenOnce : Prop :=
  (∀ x : Node, (List.finRange 8).map x.statusByte =
    [x.state.code,
      BitVec.ofNat 8 (x.failCount % 16 + 16 * x.seq.toNat + 32 * x.alert.toNat + 64 * x.matchState.toNat),
      BitVec.ofNat 8 x.reprobe, BitVec.ofNat 8 x.inputAge, x.lastStatus,
      (match x.lastOutcome with
        | none => 7
        | some o => o.code),
      x.reportedType, BitVec.ofNat 8 (16 * x.reportedOut.toNat + x.reportedIn.toNat)]) ∧
  ([NodeState.disabled, .probing, .online, .suspect, .offline, .mismatch].map NodeState.code = [0, 1, 2, 3, 4, 5]) ∧
  ∀ (s : State) (n : NodeIx) (i : ByteIx),
    (s.takeSnapshot.status[n][i] = (s.node n).statusByte i ∧
      s.takeSnapshot.input[n][i] = if i.val < (s.node n).inLen.toNat then (s.node n).input[i] else 0) ∧
    (s.readingAt (BitVec.ofNat 11 (0x400 + 8 * n.val + i.val)) → s.port.snapshot = none →
      exec .snapshotRead s = .next (State.handOverRetry { s with port := { s.port with
        pointer := nextPointer s.port.pointer, readDue := false, snapshot := some s.takeSnapshot
        sdaByte := some (if i.val < (s.node n).inLen.toNat then (s.node n).input[i] else 0) } })) ∧
    (s.readingAt (BitVec.ofNat 11 (0x200 + 8 * n.val + i.val)) → s.port.snapshot = none →
      exec .snapshotRead s = .next (State.handOverRetry { s with port := { s.port with
        pointer := nextPointer s.port.pointer, readDue := false, snapshot := some s.takeSnapshot
        sdaByte := some ((s.node n).statusByte i) } })) ∧
    (∀ held, s.port.snapshot = some held →
      (s.readingAt (BitVec.ofNat 11 (0x400 + 8 * n.val + i.val)) →
        exec .snapshotRead s = .next (State.handOverRetry { s with port := s.port.gaveByte held.input[n][i] })) ∧
      (s.readingAt (BitVec.ofNat 11 (0x200 + 8 * n.val + i.val)) →
        exec .snapshotRead s = .next (State.handOverRetry { s with port := s.port.gaveByte held.status[n][i] })))

/-- R81, R155: the first read of either byte of CYCLE_NUMBER or EVQ_LOST captures the whole count for the transfer. -/
def Obligations.CountersAreCaptured : Prop :=
  ∀ s : State,
    let cycle := s.port.cycleCap.getD s.engine.cycle
    let lost := s.port.lostCap.getD (BitVec.ofNat 16 s.evq.lost)
    (s.readingAt 0x01A → exec .cycleNumberRead s = .next (State.handOverRetry { s with port :=
      { s.port.gaveByte (BitVec.ofNat 8 (cycle.toNat / 256)) with cycleCap := some cycle } })) ∧
    (s.readingAt 0x01B → exec .cycleNumberRead s = .next (State.handOverRetry { s with port :=
      { s.port.gaveByte (BitVec.ofNat 8 (cycle.toNat % 256)) with cycleCap := some cycle } })) ∧
    (s.readingAt 0x022 → exec .evqLostRead s = .next (State.handOverRetry { s with port :=
      { s.port.gaveByte (BitVec.ofNat 8 (lost.toNat / 256)) with lostCap := some lost } })) ∧
    (s.readingAt 0x023 → exec .evqLostRead s = .next (State.handOverRetry { s with port :=
      { s.port.gaveByte (BitVec.ofNat 8 (lost.toNat % 256)) with lostCap := some lost } }))

/-! ## Resets -/

/-- R180, R163, R1: a device reset puts every block at its reset values whatever it interrupts, the link lines among them;
its end samples the straps and begins the initialization period; the end of that period stores the RESET record with its
cause and drives ATTN# low. -/
def Obligations.DeviceResetSequence : Prop :=
  (∀ (s : State) (cause : ResetCause), ∃ why,
    exec (.deviceReset cause) s = .next (State.atReset (.held why) s.adrPins s.pending) ∧
    (why = .powerOn ↔ cause = .powerOn ∨ s.power = .held .powerOn) ∧ why ≠ .softReset) ∧
  (∀ (power : Power) (pins : AdrPins) (pending : List Instr),
    let t := State.atReset power pins pending
    t.sdoRest = true ∧ t.sckRest = false ∧ ∀ k, t.selectLow k = false) ∧
  (∀ (s : State) (why : ResetReason) (straps : BitVec 2), s.power = .held why → s.heldAtReset = true →
    exec (.deviceResetEnd straps) s =
      .next (State.atReset (.initializing why 25) { s.adrPins with levels := straps } s.pending)) ∧
  (∀ (s : State) (why : ResetReason) (ticks : Nat), s.power = .initializing why ticks → s.heldAtReset = true →
    ∃ t, exec .initPeriodEnd s = .next t ∧
      t = { State.atReset .running s.adrPins s.pending with evq := { Evq.reset with records := t.evq.records } } ∧
      t.evq.records.map (fun r => (List.finRange 6).map r.byte) =
        [[0, 0xFF, 0, 0, match why with | .powerOn => 1 | .resetPin => 2 | .softReset => 3, 0]] ∧
      t.attnLow = true)

/-- R179: SOFT_RESET marks its transfer and answers OK; the reset acts at the end of that transfer, by STOP or by bus
timeout, in place of the commit. The levels it finds on the straps are free (log entry 2). -/
def Obligations.SoftResetActsAtTransferEnd : Prop :=
  (∀ s : State, s.writingAt 0x009 → exec .softReset s = .next (State.handOverRetry { s with
    cmd := { s.cmd with status := .ok, awaited := none }, port := { s.port with ack := true, softMark := true } })) ∧
  (∀ (c : Instr) (s : State), c = .transferEnd ∨ c = .busTimeout → s.port.readDue = false →
    s.port.phase = .writeData → s.port.softMark = true →
    exec c s = .next (State.atReset (.initializing .softReset 25)
      { levels := Config.strapLevels s.adrPins.samples, samples := s.adrPins.samples + 1 } s.pending))

/-- The reset values of the registers, as their owners' tables give them (R13, R21, R26, R61, R66, R101, R115, R129, R161,
R164, R168, R170, R175, R178), read through the window after reset. -/
def Obligations.ResetRegisterValues : Prop :=
  ([(0x000, 0x40), (0x001, 0x01), (0x008, 0), (0x009, 0), (0x00A, 0), (0x010, 0), (0x011, 0), (0x012, 1), (0x013, 0),
    (0x014, 100), (0x015, 0), (0x016, 2), (0x017, 3), (0x018, 100), (0x019, 0), (0x01A, 0), (0x01B, 0), (0x01C, 0),
    (0x021, 1), (0x022, 0), (0x023, 0), (0x024, 0), (0x025, 0), (0x026, 0x01), (0x027, 0x9E), (0x028, 1), (0x029, 0),
    (0x02A, 0x03), (0x02B, 0x81), (0x02C, 0), (0x030, 0), (0x031, 0), (0x032, 0), (0x033, 0), (0x034, 0), (0x038, 0),
    (0x039, 0), (0x03A, 0), (0x03B, 0), (0x03C, 0)] : List (Addr × Byte)).all
    (fun e => State.reset.readReg (regAt e.1) == e.2) = true ∧
  ((List.finRange 4).all fun p => ((List.finRange 6).map fun k =>
      State.reset.readReg (regAt (BitVec.ofNat 11 (0x040 + 8 * p.val + k.val)))) == [3, 0, 2, 2, 0, 1]) = true ∧
  ((List.finRange 16).all fun n => ((List.finRange 8).map fun k =>
      State.reset.readReg (regAt (BitVec.ofNat 11 (0x200 + 8 * n.val + k.val)))) == [0, 0, 0, 255, 0, 7, 0, 0]) = true ∧
  (∀ a : Addr, (0x100 ≤ a.toNat ∧ a.toNat < 0x200) ∨ (0x280 ≤ a.toNat ∧ a.toNat < 0x600) →
    State.reset.readReg (regAt a) = 0) ∧
  (∀ a : Addr, 0x600 ≤ a.toNat → State.reset.readReg (regAt a) = if a.toNat < 0x700 ∧ a.toNat % 32 = 2 then 0xFF else 0)

/-! ## Registers -/

/-- R175: a read of an undefined address returns 0x00 and raises no error, a write to one is discarded with UNDEFINED_ADDR
and the pointer advances; the identity registers are fixed. R26, R66, R101, R131, R157, R161, R164, R168, R170: a write to a
read-only register is discarded with WRITE_RO. That every read row reads at the pointer is the model's choice (log entry
5). -/
def Obligations.UndefinedAddressesReadZero : Prop :=
  let undefined (a : Nat) : Prop :=
    (0x0002 ≤ a ∧ a ≤ 0x0007) ∨ (0x000B ≤ a ∧ a ≤ 0x000F) ∨ (0x001D ≤ a ∧ a ≤ 0x001F) ∨ (0x002D ≤ a ∧ a ≤ 0x002F) ∨
    (0x0035 ≤ a ∧ a ≤ 0x0037) ∨ (0x003D ≤ a ∧ a ≤ 0x003F) ∨ (0x0060 ≤ a ∧ a ≤ 0x00FF) ∨
    (0x02C0 ≤ a ∧ a ≤ 0x02FF) ∨ (0x0380 ≤ a ∧ a ≤ 0x03FF) ∨ (0x0480 ≤ a ∧ a ≤ 0x04FF) ∨ (0x0700 ≤ a ∧ a ≤ 0x07FF) ∨
    (0x0040 ≤ a ∧ a ≤ 0x005F ∧ 6 ≤ a % 8) ∨
    (0x0100 ≤ a ∧ a ≤ 0x01FF ∧ (a % 16 = 0x6 ∨ a % 16 = 0x7 ∨ a % 16 = 0x9 ∨ a % 16 = 0xE ∨ a % 16 = 0xF)) ∨
    (0x0600 ≤ a ∧ a ≤ 0x06FF ∧ ((0x05 ≤ a % 32 ∧ a % 32 ≤ 0x07) ∨ (0x0C ≤ a % 32 ∧ a % 32 ≤ 0x0F)))
  let readOnly (a : Nat) : Prop :=
    a ∈ [0x0000, 0x0001, 0x000A, 0x0019, 0x001A, 0x001B, 0x001C, 0x0020, 0x0021, 0x0022, 0x0023, 0x0025, 0x002B, 0x002C,
      0x0030, 0x0031, 0x0032, 0x0033, 0x0038, 0x003C] ∨ (0x0200 ≤ a ∧ a ≤ 0x027F) ∨ (0x0400 ≤ a ∧ a ≤ 0x047F)
  (∀ (s : State) (a : Addr) (b : Byte), undefined a.toNat → s.writingAt a →
    exec (.registerWrite b) s = .next (State.handOverRetry { s with
      err := s.err.take .undefinedAddr a, port := { s.port with pointer := a + 1, ack := true } })) ∧
  (∀ (c : Instr) (s : State) (a : Addr), undefined a.toNat → c.asksByte = true → s.readingAt a →
    exec c s = .next (State.handOverRetry { s with
      port := { s.port with pointer := a + 1, readDue := false, sdaByte := some 0 } })) ∧
  (∀ (c : Instr) (s : State) (a : Addr), a.toNat ≤ 1 → c.asksByte = true → s.readingAt a →
    exec c s = .next (State.handOverRetry { s with port := s.port.gaveByte (if a.toNat = 0 then 0x40 else 0x01) })) ∧
  (∀ (s : State) (a : Addr) (b : Byte), readOnly a.toNat → s.writingAt a →
    exec (.registerWrite b) s = .next (State.handOverRetry { s with err := s.err.take .writeRo a, port := s.port.tookByte }))

/-- R169: the first error since the last clear is kept with its code and address and later ones set MULTIPLE; a byte
written to HOST_ERR_CLEAR clears the capture. -/
def Obligations.HostErrorCapture : Prop :=
  (∀ (c : ErrCapture) (e : HostError) (a : Addr), c.flag = false →
    c.take e a = { c with flag := true, code := some e, addr := a }) ∧
  (∀ (c : ErrCapture) (e : HostError) (a : Addr), c.flag = true → c.take e a = { c with multiple := true }) ∧
  (∀ (s : State) (b : Byte), s.writingAt 0x034 →
    exec (.hostErrClear b) s = .next (State.handOverRetry { s with
      err := { flag := false, multiple := false, code := none, addr := 0 }, port := s.port.tookByte }))

/-- R17, R48, R53, R65, R67, R88, R150, R160, R165: a legal value replaces the register at once, a value out of range is
discarded with BAD_VALUE, and nothing else changes. START_SOURCE and SYNC_EDGE are locked outside STOPPED, EVQ_POLICY while
a record is stored or a report is pending, each lock being judged before the range; EVQ_KIND_ENABLE ignores the bits it does
not hold. -/
def Obligations.RangeCheckedRegisters : Prop :=
  ∀ (s : State) (b : Byte),
    let kept (a : Addr) : State := { s with err := s.err.take .badValue a, port := s.port.tookByte }
    let engine (g : Engine) : State := { s with engine := g, port := s.port.tookByte }
    let attn (x : Attn) : State := { s with attn := x, port := s.port.tookByte }
    let evq (q : Evq) : State := { s with evq := q, port := s.port.tookByte }
    let locked (c : HostError) (a : Addr) : State := { s with err := s.err.take c a, port := s.port.tookByte }
    (s.writingAt 0x010 → exec (.registerWrite b) s = .next (State.handOverRetry (
      if s.engine.state ≠ .stopped then locked .scanLocked 0x010
      else if b = 0 then engine { s.engine with source := .timer }
      else if b = 1 then engine { s.engine with source := .sync }
      else if b = 2 then engine { s.engine with source := .host } else kept 0x010))) ∧
    (s.writingAt 0x011 → exec (.registerWrite b) s = .next (State.handOverRetry (
      if s.engine.state ≠ .stopped then locked .scanLocked 0x011
      else if b = 0 then engine { s.engine with syncEdge := .rising }
      else if b = 1 then engine { s.engine with syncEdge := .falling } else kept 0x011))) ∧
    (s.writingAt 0x024 → exec (.registerWrite b) s = .next (State.handOverRetry (
      if s.evq.records ≠ [] ∨ (s.evq.policy = .keepOldest ∧ s.evq.overflowed = true) ∨
        (s.evq.policy = .keepNewest ∧ 0 < s.evq.lost) then locked .evqLocked 0x024
      else if b = 0 then evq { s.evq with policy := .keepOldest }
      else if b = 1 then evq { s.evq with policy := .keepNewest } else kept 0x024))) ∧
    (s.writingAt 0x026 → exec (.registerWrite b) s = .next (State.handOverRetry (
      evq { s.evq with kindEnable := BitVec.ofNat 16 (256 * (b.toNat % 2) + s.evq.kindEnable.toNat % 256) }))) ∧
    (s.writingAt 0x027 → exec (.registerWrite b) s = .next (State.handOverRetry (
      evq { s.evq with
        kindEnable := BitVec.ofNat 16 (256 * (s.evq.kindEnable.toNat / 256) + (b &&& 0xDE).toNat) }))) ∧
    (s.writingAt 0x012 → exec (.registerWrite b) s = .next (State.handOverRetry (
      if b = 0 then engine { s.engine with linkMode := .scanFirst }
      else if b = 1 then engine { s.engine with linkMode := .interleave }
      else if b = 2 then engine { s.engine with linkMode := .txnFirst } else kept 0x012))) ∧
    (s.writingAt 0x015 → exec (.registerWrite b) s = .next (State.handOverRetry (
      if b.toNat ≤ 32 then engine { s.engine with schedLen := b } else kept 0x015))) ∧
    (s.writingAt 0x016 → exec (.registerWrite b) s = .next (State.handOverRetry (
      if b.toNat ≤ 7 then engine { s.engine with retryLimit := b } else kept 0x016))) ∧
    (s.writingAt 0x017 → exec (.registerWrite b) s = .next (State.handOverRetry (
      if 1 ≤ b.toNat ∧ b.toNat ≤ 15 then engine { s.engine with offlineThreshold := b } else kept 0x017))) ∧
    (s.writingAt 0x018 → exec (.registerWrite b) s = .next (State.handOverRetry (
      if b ≠ 0 then engine { s.engine with reprobeInterval := b } else kept 0x018))) ∧
    (s.writingAt 0x028 → exec (.registerWrite b) s = .next (State.handOverRetry (
      if 1 ≤ b.toNat ∧ b.toNat ≤ 32 then attn { s.attn with level := b } else kept 0x028))) ∧
    (s.writingAt 0x029 → exec (.registerWrite b) s = .next (State.handOverRetry (attn { s.attn with delay := b }))) ∧
    (s.writingAt 0x02A → exec (.registerWrite b) s = .next (State.handOverRetry (
      if b.toNat ≤ 3 then attn { s.attn with mask := b } else kept 0x02A))) ∧
    (s.writingAt 0x008 → exec (.registerWrite b) s = .next (State.handOverRetry { s with
      cmd := { s.cmd with arg := b }, port := s.port.tookByte }))

/-- R68: the high byte of CYCLE_PERIOD is held, the low byte forms the new value in one step, 0 is rejected, the held byte
is dropped either way, and the running interval is not changed; reads return the register. That the row SNAPSHOT_READ reads
it is the model's choice (log entry 5). -/
def Obligations.CyclePeriodTakesBothBytes : Prop :=
  ∀ (s : State) (b : Byte),
    (s.writingAt 0x013 → exec (.cyclePeriodWrite b) s = .next (State.handOverRetry { s with
      engine := { s.engine with pendingHigh := some b }, port := s.port.tookByte })) ∧
    (s.writingAt 0x014 →
      let high := (s.engine.pendingHigh.map BitVec.toNat).getD (s.engine.period.toNat / 256)
      let value := 256 * high + b.toNat
      exec (.cyclePeriodWrite b) s = .next (State.handOverRetry (
        if value = 0 then { s with
          engine := { s.engine with pendingHigh := none }, err := s.err.take .badValue 0x014, port := s.port.tookByte }
        else { s with
          engine := { s.engine with pendingHigh := none, period := BitVec.ofNat 16 value }
          port := s.port.tookByte }))) ∧
    (s.readingAt 0x013 → exec .snapshotRead s = .next (State.handOverRetry { s with
      port := s.port.gaveByte (BitVec.ofNat 8 (s.engine.period.toNat / 256)) })) ∧
    (s.readingAt 0x014 → exec .snapshotRead s = .next (State.handOverRetry { s with
      port := s.port.gaveByte (BitVec.ofNat 8 (s.engine.period.toNat % 256)) }))

/-- R14: a profile field is written only in STOPPED with no work item in progress; the lock is judged before the range, and
the field at the address written is the one that takes the byte. -/
def Obligations.ProfileWriteLocked : Prop :=
  ∀ (s : State) (p : ProfileIx) (k : Nat) (f : ProfileField) (b : Byte), profileField k = some f →
    s.writingAt (BitVec.ofNat 11 (0x040 + 8 * p.val + k)) →
    let least := match f with
      | .setup => 1
      | .hold => 1
      | .turn => 1
      | _ => 0
    let most := match f with
      | .rate => 6
      | .mode => 3
      | .byteGap => 15
      | .turn => 4
      | _ => 16
    exec (.registerWrite b) s = .next (State.handOverRetry (
      if s.engine.state ≠ .stopped ∨ s.link.work ≠ none then
        { s with err := s.err.take .profileLocked s.port.pointer, port := s.port.tookByte }
      else if least ≤ b.toNat ∧ b.toNat ≤ most then
        { s with
          link := { s.link with
            profiles := s.link.profiles.set p (match f with
              | .rate => { s.link.profiles[p] with rate := b }
              | .mode => { s.link.profiles[p] with mode := b }
              | .setup => { s.link.profiles[p] with setup := b }
              | .hold => { s.link.profiles[p] with hold := b }
              | .byteGap => { s.link.profiles[p] with byteGap := b }
              | .turn => { s.link.profiles[p] with turn := b }) }
          port := s.port.tookByte }
      else { s with err := s.err.take .badValue s.port.pointer, port := s.port.tookByte }))

/-- R22 to R24, R124: a static field of a node entry is written only while the node is DISABLED, which a pending
NODE_DISABLE has not yet made it, the lock being judged before the range; OPTIONS is written in any node state, its bits 7–3
must be 0, and clearing MATCH_ENABLE sets MATCH_STATE false at once and with no event; the match value and mask take any
byte in any node state. -/
def Obligations.NodeConfigurationWrites : Prop :=
  (∀ (s : State) (n : NodeIx) (k : Nat) (b : Byte), k ≤ 5 →
    s.writingAt (BitVec.ofNat 11 (0x100 + 16 * n.val + k)) →
    exec (.registerWrite b) s = .next (State.handOverRetry (
      if (s.node n).state ≠ .disabled then
        { s with err := s.err.take .nodeLocked s.port.pointer, port := s.port.tookByte }
      else if (k = 0 ∧ 3 < b.toNat) ∨ (k = 1 ∧ 31 < b.toNat) ∨ (k = 2 ∧ 3 < b.toNat) then
        { s with err := s.err.take .badValue s.port.pointer, port := s.port.tookByte }
      else { s with
        nodes := s.nodes.set n (match k with
          | 0 => { s.node n with segment := b }
          | 1 => { s.node n with address := b }
          | 2 => { s.node n with profile := b }
          | 3 => { s.node n with outLen := b }
          | 4 => { s.node n with inLen := b }
          | _ => { s.node n with expectType := b })
        port := s.port.tookByte }))) ∧
  (∀ (s : State) (n : NodeIx) (b : Byte), s.writingAt (BitVec.ofNat 11 (0x108 + 16 * n.val)) →
    exec (.optionsWrite b) s = .next (State.handOverRetry (
      if b.toNat < 8 then { s with
        nodes := s.nodes.set n { s.node n with
          options := b, matchState := if b.getLsbD 1 then (s.node n).matchState else false }
        port := s.port.tookByte }
      else { s with err := s.err.take .badValue s.port.pointer, port := s.port.tookByte }))) ∧
  (∀ (s : State) (n : NodeIx) (k : Nat) (b : Byte), 10 ≤ k → k ≤ 13 →
    s.writingAt (BitVec.ofNat 11 (0x100 + 16 * n.val + k)) →
    exec (.registerWrite b) s = .next (State.handOverRetry { s with
      nodes := s.nodes.set n (match k with
        | 10 => { s.node n with matchValueHi := b }
        | 11 => { s.node n with matchValueLo := b }
        | 12 => { s.node n with matchMaskHi := b }
        | _ => { s.node n with matchMaskLo := b })
      port := s.port.tookByte }))

/-- R116: the change masks are ordinary registers: a byte written is held at once, nothing locks or refuses it, and a
read returns it. R13, R21, R61, R66, R129, R131, R150, R151, R156, R160, R164, R166, R168, R170, R178: so does a read of every
other register that is read as it stands; ATTN_CAUSE is spelled out in `AttentionCauses`. That every read row reads at the
pointer is the model's choice (log entry 5). -/
def Obligations.MaskBytesHeldAtOnce : Prop :=
  (∀ (s : State) (n : NodeIx) (i : ByteIx) (b : Byte),
    (s.writingAt (BitVec.ofNat 11 (0x500 + 16 * n.val + i.val)) →
      exec (.registerWrite b) s = .next (State.handOverRetry { s with
        nodes := s.nodes.set n { s.node n with rise := (s.node n).rise.set i b }, port := s.port.tookByte })) ∧
    (s.writingAt (BitVec.ofNat 11 (0x508 + 16 * n.val + i.val)) →
      exec (.registerWrite b) s = .next (State.handOverRetry { s with
        nodes := s.nodes.set n { s.node n with fall := (s.node n).fall.set i b }, port := s.port.tookByte }))) ∧
  ∀ (s : State) (c : Instr), c.asksByte = true →
    let reads (a : Nat) (b : Byte) : Prop := s.readingAt (BitVec.ofNat 11 a) →
      exec c s = .next (State.handOverRetry { s with port := s.port.gaveByte b })
    let g := s.engine
    let q := s.evq
    let pending := (q.policy == .keepOldest && q.overflowed) || (q.policy == .keepNewest && decide (0 < q.lost))
    (∀ (n : NodeIx) (i : ByteIx),
      reads (0x500 + 16 * n.val + i.val) (s.node n).rise[i] ∧ reads (0x508 + 16 * n.val + i.val) (s.node n).fall[i]) ∧
    (∀ r ∈ ([(0x008, s.cmd.arg), (0x009, 0), (0x00A, s.cmd.status.code), (0x010, g.source.code),
        (0x011, match g.syncEdge with | .rising => 0 | .falling => 1), (0x012, g.linkMode.code),
        (0x013, BitVec.ofNat 8 (g.period.toNat / 256)), (0x014, BitVec.ofNat 8 (g.period.toNat % 256)),
        (0x015, g.schedLen), (0x016, g.retryLimit), (0x017, g.offlineThreshold), (0x018, g.reprobeInterval),
        (0x019, g.state.code), (0x01C, BitVec.ofNat 8 g.overruns),
        (0x021, BitVec.ofNat 8 q.records.length), (0x024, q.policy.code),
        (0x025, BitVec.ofNat 8 (pending.toNat + 2 * q.overflowed.toNat)),
        (0x026, BitVec.ofNat 8 (q.kindEnable.toNat / 256)), (0x027, BitVec.ofNat 8 (q.kindEnable.toNat % 256)),
        (0x028, s.attn.level), (0x029, s.attn.delay), (0x02A, s.attn.mask), (0x02B, s.readReg (regAt 0x02B)),
        (0x02C, BitVec.ofNat 8 q.headAge),
        (0x030, BitVec.ofNat 8 (s.err.flag.toNat + 2 * s.err.multiple.toNat)),
        (0x031, match s.err.code with | none => 0 | some e => e.code),
        (0x032, BitVec.ofNat 8 (s.err.addr.toNat / 256)), (0x033, BitVec.ofNat 8 (s.err.addr.toNat % 256)),
        (0x034, 0), (0x039, 0), (0x03A, 0), (0x03B, 0), (0x03C, BitVec.ofNat 8 s.order.length)] : List (Nat × Byte)),
      reads r.1 r.2) ∧
    (∀ p : ProfileIx, let x := s.link.profiles[p]
      ∀ r ∈ ([(0, x.rate), (1, x.mode), (2, x.setup), (3, x.hold), (4, x.byteGap), (5, x.turn)] : List (Nat × Byte)),
        reads (0x040 + 8 * p.val + r.1) r.2) ∧
    (∀ n : NodeIx, let x := s.node n
      ∀ r ∈ ([(0, x.segment), (1, x.address), (2, x.profile), (3, x.outLen), (4, x.inLen), (5, x.expectType),
          (8, x.options), (10, x.matchValueHi), (11, x.matchValueLo), (12, x.matchMaskHi), (13, x.matchMaskLo)] :
          List (Nat × Byte)), reads (0x100 + 16 * n.val + r.1) r.2) ∧
    (∀ k : SlotIx, reads (0x280 + 2 * k.val) s.slots[k].byte0 ∧ reads (0x281 + 2 * k.val) s.slots[k].byte1) ∧
    (∀ e : TxnIx, let x := s.txn e
      (∀ r ∈ ([(0, x.state.code), (1, BitVec.ofNat 8 x.gen.toNat), (2, match x.result with | none => 0xFF | some o => o.code),
          (3, BitVec.ofNat 8 x.attempts), (4, x.replyStatus), (8, x.node), (9, x.op), (10, x.regIndex), (11, x.count)] :
          List (Nat × Byte)), reads (0x600 + 32 * e.val + r.1) r.2) ∧
      ∀ i : ByteIx, reads (0x610 + 32 * e.val + i.val) x.wdata[i] ∧ reads (0x618 + 32 * e.val + i.val) x.rdata[i]) ∧
    ((List.range 8).map profileField =
        [some .rate, some .mode, some .setup, some .hold, some .byteGap, some .turn, none, none] ∧
      (List.range 16).map txnField =
        [some .state, some .gen, some .result, some .attempts, some .replyStatus, none, none, none,
          some .node, some .op, some .regIndex, some .count, none, none, none, none] ∧
      ∀ i : ByteIx, txnField (0x10 + i.val) = some (.wdata i) ∧ txnField (0x18 + i.val) = some (.rdata i)) ∧
    ([CmdStatus.ok, .refusedState, .badArg, .unknown, .pending].map CmdStatus.code = [0, 1, 2, 3, 4] ∧
      [StartSource.timer, .sync, .host].map StartSource.code = [0, 1, 2] ∧
      [LinkMode.scanFirst, .interleave, .txnFirst].map LinkMode.code = [0, 1, 2] ∧
      [EngineState.stopped, .waiting, .cycling, .draining].map EngineState.code = [0, 1, 2, 3] ∧
      [LossPolicy.keepOldest, .keepNewest].map LossPolicy.code = [0, 1] ∧
      [HostError.writeRo, .undefinedAddr, .nodeLocked, .profileLocked, .scanLocked, .evqLocked, .txnLocked, .badValue,
        .configInvalid, .badHandle, .tooLate, .cmdRefused, .cmdUnknown].map HostError.code =
        [1, 2, 3, 4, 5, 6, 7, 8, 9, 10, 11, 12, 13] ∧
      [TxnState.free, .reserved, .queued, .active, .done, .failed, .cancelled].map TxnState.code = [0, 1, 2, 3, 4, 5, 6] ∧
      [TxnResult.link .ok, .link .noReply, .link .checkError, .link .seqError, .link .busy, .link .refused,
        .nodeUnavailable, .cancelled].map TxnResult.code = [0, 1, 2, 3, 4, 5, 6, 7])

/-- R61, R62, R86: ENABLE and NODE are read from byte 0 of a slot, divisor and PHASE from byte 1; a slot byte is judged on its
own and replaced at once in any engine state; in WAITING with an idle link the choice is made where a node of class PROBE is
left without an enabled slot within the latched length (whether or not this write took its slot away, the model's reading, log
entry 16), and nothing more happens where none is. -/
def Obligations.SlotWriteJudged : Prop :=
  (∀ sl : Slot, (sl.enabled = true ↔ 128 ≤ sl.byte0.toNat) ∧ sl.node.val = sl.byte0.toNat % 16 ∧
    sl.divisor = 2 ^ (sl.byte1.toNat / 16 % 8) ∧ sl.phase = sl.byte1.toNat % 16) ∧
  ∀ (s : State) (k : SlotIx) (second : Bool) (b : Byte),
    s.writingAt (BitVec.ofNat 11 (0x280 + 2 * k.val + second.toNat)) →
    let legal : Prop :=
      if second then b.toNat < 128 ∧ b.toNat / 16 ≤ 4 ∧ b.toNat % 16 < 2 ^ (b.toNat / 16)
      else b.toNat / 16 % 8 = 0
    let written : State := { s with
      slots := s.slots.set k (if second then { s.slots[k] with byte1 := b } else { s.slots[k] with byte0 := b })
      port := s.port.tookByte }
    let claims : Prop := ∃ n : NodeIx,
      ((s.node n).state = .probing ∨ ((s.node n).state = .offline ∧ (s.node n).reprobe = 0)) ∧
      ∀ j : SlotIx, j.val < s.engine.latchedLen → written.slots[j].enabled = true → written.slots[j].node ≠ n
    (¬ legal → exec (.slotWrite b) s = .next (State.handOverRetry { s with
      err := s.err.take .badValue s.port.pointer, port := s.port.tookByte })) ∧
    (legal → (s.engine.state ≠ .waiting ∨ s.link.work ≠ none) →
      exec (.slotWrite b) s = .next (State.handOverRetry written)) ∧
    (legal → s.engine.state = .waiting → s.link.work = none →
      (claims → exec (.slotWrite b) s = .next written.choose) ∧ (¬ claims → exec (.slotWrite b) s = .next written)) ∧
    (legal → ∃ t, exec (.slotWrite b) s = .next t ∧ written.HostSideKept t)

/-- R132: a request field of a transaction entry is written only while the entry is RESERVED, with any byte; the other
fields refuse every write. -/
def Obligations.RequestFieldsLocked : Prop :=
  ∀ (s : State) (e : TxnIx) (k : Nat) (f : TxnField) (b : Byte), k < 32 → txnField k = some f →
    s.writingAt (BitVec.ofNat 11 (0x600 + 32 * e.val + k)) →
    exec (.registerWrite b) s = .next (State.handOverRetry (
      if k < 8 ∨ 24 ≤ k then { s with err := s.err.take .writeRo s.port.pointer, port := s.port.tookByte }
      else if (s.txn e).state ≠ .reserved then
        { s with err := s.err.take .txnLocked s.port.pointer, port := s.port.tookByte }
      else { s with
        txns := s.txns.set e (match f with
          | .node => { s.txn e with node := b }
          | .op => { s.txn e with op := b }
          | .regIndex => { s.txn e with regIndex := b }
          | .count => { s.txn e with count := b }
          | .wdata i => { s.txn e with wdata := (s.txn e).wdata.set i b }
          | _ => s.txn e)
        port := s.port.tookByte }))

/-! ## Commands of the command register -/

/-- R72: START_SCAN is refused outside STOPPED. In STOPPED it latches SCHED_LEN, queues its event and enters WAITING, and
with source TIMER begins a cycle at once. On an idle link the choice is then made, once (R86; that it is made after the
first cycle has begun is the model's reading, log entry 10). -/
def Obligations.StartScanStartsEngine : Prop :=
  ∀ s : State, s.writingAt 0x009 →
    let port := { s.port with ack := true }
    let answered := { s.cmd with status := CmdStatus.ok, awaited := none }
    let waiting : State := { s with
      cmd := answered, port := port
      engine := { s.engine with state := .waiting, latchedLen := s.engine.schedLen.toNat }
      nodes := tabMap (fun x => { x with gapMark := false }) s.nodes }
    let announced := waiting.emit .scanState 0xFF 1 1
    let cycling : State := { announced with
      engine := { announced.engine with
        timer := some s.engine.period.toNat, cycle := s.engine.cycle + 1, cursor := 0, evaluated := 0, failed := 0
        dropped := 0, state := .cycling }
      nodes := tabMap (fun x => { x with
        inputAge := if x.state = .disabled ∨ x.state = .mismatch then x.inputAge
          else if x.inputAge < 255 then x.inputAge + 1 else x.inputAge
        reprobe := if x.state = .offline then x.reprobe - 1 else x.reprobe }) announced.nodes }
    (s.engine.state ≠ .stopped → exec .startScan s = .next (State.handOverRetry { s with
      cmd := { s.cmd with status := .refusedState, awaited := none }
      err := s.err.take .cmdRefused 0x009, port := port })) ∧
    (s.engine.state = .stopped → s.link.work ≠ none →
      exec .startScan s = .next (State.handOverRetry (if s.engine.source = .timer then cycling else announced))) ∧
    (s.engine.state = .stopped → s.link.work = none →
      exec .startScan s = .next (State.choose (if s.engine.source = .timer then cycling else announced))) ∧
    (s.engine.state = .stopped →
      ∃ t, exec .startScan s = .next t ∧ t.cmd = answered ∧ t.engine.latchedLen = s.engine.schedLen.toNat ∧
        t.engine.state ≠ .stopped ∧ t.engine.state ≠ .draining ∧
        t.engine.cycle = (if s.engine.source = .timer then s.engine.cycle + 1 else s.engine.cycle) ∧
        t.engine.timer = if s.engine.source = .timer then some s.engine.period.toNat else s.engine.timer)

/-- R78 to R80, R18: STOP_SCAN is refused in STOPPED and DRAINING, stops the engine at once where no cycle is being worked,
and otherwise drains the attempt in flight with its retries suppressed; a pending retry is withdrawn, its last outcome is
evaluated in full, the engine stops at once and the choice is made from the state all of this leaves. -/
def Obligations.StopScanStopsEngine : Prop :=
  ∀ s : State, s.writingAt 0x009 →
    let port := { s.port with ack := true }
    let answered : State := { s with cmd := { s.cmd with status := .ok, awaited := none }, port := port }
    let reported := if 0 < s.engine.dropped
      then answered.emit .cycleOverrun 0xFF (BitVec.ofNat 8 s.engine.dropped) 0 else answered
    let announced := reported.emit .scanState 0xFF 0 2
    (s.engine.state = .stopped ∨ s.engine.state = .draining → exec .stopScan s = .next (State.handOverRetry { s with
      cmd := { s.cmd with status := .refusedState, awaited := none }
      err := s.err.take .cmdRefused 0x009, port := port })) ∧
    (s.engine.state = .waiting ∨ (s.engine.state = .cycling ∧ s.link.work = none) →
      exec .stopScan s = .next (State.handOverRetry { announced with
        engine := { s.engine with state := .stopped, timer := none, evaluated := 0, failed := 0, dropped := 0 } })) ∧
    (∀ w x, s.engine.state = .cycling → s.link.work = some w → w.phase = .inFlight x →
      exec .stopScan s = .next (State.handOverRetry { s with
        cmd := { s.cmd with status := .pending, awaited := some .stopScan }, port := port
        engine := { s.engine with state := .draining }
        link := { s.link with work := some { w with suppressed := true } } })) ∧
    (∀ w r, s.engine.state = .cycling → s.link.work = some w → w.phase = .retryPending r →
      ∃ t, exec .stopScan s = .next t ∧ t.engine.state = .stopped ∧ t.engine.timer = none ∧
        t.cmd = { s.cmd with status := .ok, awaited := none } ∧ t.port = port) ∧
    (∀ w r, s.sound = true → s.engine.state = .cycling → s.link.work = some w → w.phase = .retryPending r →
      exec .stopScan s = .next (State.choose (State.withdrawn { s with
        cmd := { s.cmd with status := .pending, awaited := some .stopScan }, port := port
        engine := { s.engine with state := .draining } } w r)))

/-- R70, R71, R73, R54: a start taken in WAITING, from the timer, from SYNC or from TRIGGER_CYCLE, begins a cycle: the
number, the latched length, the cursor and the counts are set, and the cycle-start duties are done for all nodes. While a
work item of the gap is in progress nothing more happens; on an idle link the choice is then made (R86). -/
def Obligations.CycleStartBeginsCycle : Prop :=
  ∀ (s : State) (edge : Edge), s.port.readDue = false → s.engine.state = .waiting →
    let begun (u : State) : State := { u with
      engine := { u.engine with
        cycle := u.engine.cycle + 1, latchedLen := u.engine.schedLen.toNat, cursor := 0, evaluated := 0, failed := 0
        dropped := 0, state := .cycling }
      nodes := tabMap (fun x => { x with
        inputAge := if x.state = .disabled ∨ x.state = .mismatch then x.inputAge
          else if x.inputAge < 255 then x.inputAge + 1 else x.inputAge
        reprobe := if x.state = .offline then x.reprobe - 1 else x.reprobe }) u.nodes }
    let reloaded : State := { s with engine := { s.engine with timer := some s.engine.period.toNat } }
    let accepted : State := { s with
      cmd := { s.cmd with status := .ok, awaited := none }, port := { s.port with ack := true } }
    let follows (c : Instr) (u : State) : Prop :=
      (s.link.work ≠ none → exec c s = .next (State.handOverRetry (begun u))) ∧
      (s.link.work = none → exec c s = .next (State.choose (begun u))) ∧
      (∃ t, exec c s = .next t ∧ t.engine.cycle = s.engine.cycle + 1 ∧
        t.engine.latchedLen = s.engine.schedLen.toNat ∧ (begun u).HostSideKept t ∧
        ∀ n, (t.node n).inputAge = ((begun u).node n).inputAge ∧ (t.node n).reprobe = ((begun u).node n).reprobe)
    (s.engine.timer ≠ none → follows .cycleTimerExpiry reloaded) ∧
    (s.engine.source = .sync → s.engine.syncEdge = edge → follows (.syncInputEdge edge) s) ∧
    (s.writingAt 0x009 → s.engine.source = .host → follows .triggerCycle accepted)

/-- R70, R71, R74: a start taken in CYCLING or DRAINING is dropped and counted, and changes nothing else; a SYNC edge of
the other polarity, with another source or in STOPPED has no effect; TRIGGER_CYCLE is refused in STOPPED and with another
source. -/
def Obligations.OverrunIsCounted : Prop :=
  ∀ (s : State) (edge : Edge), s.port.readDue = false →
    let port := { s.port with ack := true }
    let counted : Engine := { s.engine with
      overruns := if s.engine.overruns < 255 then s.engine.overruns + 1 else s.engine.overruns
      dropped := if s.engine.dropped < 255 then s.engine.dropped + 1 else s.engine.dropped }
    (s.engine.state = .cycling ∨ s.engine.state = .draining →
      (s.engine.timer ≠ none → exec .cycleTimerExpiry s = .next (State.handOverRetry { s with
        engine := { counted with timer := some s.engine.period.toNat } })) ∧
      (s.engine.source = .sync → s.engine.syncEdge = edge →
        exec (.syncInputEdge edge) s = .next (State.handOverRetry { s with engine := counted })) ∧
      (s.writingAt 0x009 → s.engine.source = .host → exec .triggerCycle s = .next (State.handOverRetry { s with
        engine := counted, cmd := { s.cmd with status := .ok, awaited := none }, port := port }))) ∧
    (s.engine.source ≠ .sync ∨ s.engine.syncEdge ≠ edge ∨ s.engine.state = .stopped →
      exec (.syncInputEdge edge) s = .next (State.handOverRetry s)) ∧
    (s.writingAt 0x009 → s.engine.state = .stopped ∨ s.engine.source ≠ .host →
      exec .triggerCycle s = .next (State.handOverRetry { s with
        cmd := { s.cmd with status := .refusedState, awaited := none }
        err := s.err.take .cmdRefused 0x009, port := port }))

/-- R28, R178: an unknown code answers UNKNOWN and a node command with CMD_ARG above 15 answers BAD_ARG, each with its
host error and no other effect. -/
def Obligations.UnknownAndBadArgument : Prop :=
  ∀ s : State, s.writingAt 0x009 →
    (∀ code : Byte, code ∉ ([0x01, 0x02, 0x03, 0x10, 0x11, 0x12, 0x20, 0x30, 0x5A] : List Byte) →
      exec (.unknownCommand code) s = .next (State.handOverRetry { s with
        cmd := { s.cmd with status := .unknown, awaited := none }
        err := s.err.take .cmdUnknown 0x009, port := { s.port with ack := true } })) ∧
    (∀ c : Instr, c = .nodeEnable ∨ c = .nodeDisable ∨ c = .nodeReprobe → 15 < s.cmd.arg.toNat →
      exec c s = .next (State.handOverRetry { s with
        cmd := { s.cmd with status := .badArg, awaited := none }
        err := s.err.take .badValue 0x009, port := { s.port with ack := true } }))

/-- R29, R30: NODE_ENABLE is refused unless the node is DISABLED, fails on a length above 8 or an address in service, and
otherwise takes the node to PROBING with its status cleared and one NODE_STATE event. In WAITING with an idle link the choice
is then made where the node needs a gap probe (R86, R92), and nothing more happens where it does not. -/
def Obligations.NodeEnableTakesIntoService : Prop :=
  ∀ (s : State) (n : NodeIx), s.writingAt 0x009 → s.cmd.arg.toNat = n.val →
    let port := { s.port with ack := true }
    let x := s.node n
    let bad : Prop := 8 < x.outLen.toNat ∨ 8 < x.inLen.toNat ∨
      ∃ m, m ≠ n ∧ (s.node m).state ≠ .disabled ∧ (s.node m).segment = x.segment ∧ (s.node m).address = x.address
    let enabled : State := State.emit { s with
      cmd := { s.cmd with status := .ok, awaited := none }, port := port
      nodes := s.nodes.set n { x with
        state := .probing, failCount := 0, seq := false, alert := false, matchState := false, reprobe := 0
        inputAge := 255, lastOutcome := none, lastStatus := 0, reportedType := 0, reportedOut := 0, reportedIn := 0
        input := Vector.replicate 8 0, due := false, baseline := false } } .nodeState (BitVec.ofNat 8 n.val) 1 0
    let needsGapProbe : Prop := x.gapMark = false ∧
      ∀ k : SlotIx, k.val < s.engine.latchedLen → s.slots[k].enabled = true → s.slots[k].node ≠ n
    (x.state ≠ .disabled → exec .nodeEnable s = .next (State.handOverRetry { s with
      cmd := { s.cmd with status := .refusedState, awaited := none }
      err := s.err.take .cmdRefused 0x009, port := port })) ∧
    (x.state = .disabled → bad → exec .nodeEnable s = .next (State.handOverRetry { s with
      cmd := { s.cmd with status := .badArg, awaited := none }
      err := s.err.take .configInvalid 0x009, port := port })) ∧
    (x.state = .disabled → ¬ bad → (s.engine.state ≠ .waiting ∨ s.link.work ≠ none) →
      exec .nodeEnable s = .next (State.handOverRetry enabled)) ∧
    (x.state = .disabled → ¬ bad → s.engine.state = .waiting → s.link.work = none →
      (needsGapProbe → exec .nodeEnable s = .next enabled.choose) ∧
      (¬ needsGapProbe → exec .nodeEnable s = .next enabled)) ∧
    (x.state = .disabled → ¬ bad → ∃ t, exec .nodeEnable s = .next t ∧ enabled.HostSideKept t ∧
      (t.node n).state = .probing ∧ t.cmd = enabled.cmd ∧ t.engine = enabled.engine)

/-- R31, R32: NODE_DISABLE is refused for a DISABLED node, disables a node whose work is not in progress at once with one
NODE_STATE event, and otherwise waits for the attempt in flight with its retries suppressed; a pending retry is withdrawn,
its last outcome is evaluated in full, the node is DISABLED at once and the choice is made from the state this leaves. -/
def Obligations.NodeDisableTakesOutOfService : Prop :=
  ∀ (s : State) (n : NodeIx), s.writingAt 0x009 → s.cmd.arg.toNat = n.val →
    let port := { s.port with ack := true }
    let x := s.node n
    (x.state = .disabled → exec .nodeDisable s = .next (State.handOverRetry { s with
      cmd := { s.cmd with status := .refusedState, awaited := none }
      err := s.err.take .cmdRefused 0x009, port := port })) ∧
    (x.state ≠ .disabled → (∀ w, s.link.work = some w → w.node ≠ n) →
      exec .nodeDisable s = .next (State.handOverRetry (State.emit { s with
        cmd := { s.cmd with status := .ok, awaited := none }, port := port
        nodes := s.nodes.set n { x with
          state := .disabled, due := false, matchState := false, inputAge := 255, reprobe := 0 } }
        .nodeState (BitVec.ofNat 8 n.val) 0 x.state.code))) ∧
    (∀ w y, x.state ≠ .disabled → s.link.work = some w → w.node = n → w.phase = .inFlight y →
      exec .nodeDisable s = .next (State.handOverRetry { s with
        cmd := { s.cmd with status := .pending, awaited := some .nodeCommand }, port := port
        link := { s.link with work := some { w with nodeCmd := some .disable, suppressed := true } } })) ∧
    (∀ w r, x.state ≠ .disabled → s.link.work = some w → w.node = n → w.phase = .retryPending r →
      ∃ t, exec .nodeDisable s = .next t ∧ (t.node n).state = .disabled ∧ t.port = port ∧
        t.cmd = { s.cmd with status := .ok, awaited := none }) ∧
    (∀ w r, s.sound = true → s.link.work = some w → w.node = n → w.phase = .retryPending r →
      exec .nodeDisable s = .next (State.choose (State.withdrawn { s with
        cmd := { s.cmd with status := .pending, awaited := some .nodeCommand }, port := port }
        { w with nodeCmd := some .disable } r)))

/-- R33 to R35: NODE_REPROBE is refused for a DISABLED node and while a NODE_DISABLE of the node is pending, returns a
node whose work is not in progress to PROBING at once, and otherwise waits for the attempt in flight; in WAITING with an idle
link the choice is then made where the node needs a gap probe (R86, R92). A pending retry is withdrawn, its last outcome is
evaluated in full, the node is in PROBING at once and the choice is made from the state this leaves. -/
def Obligations.NodeReprobeReturnsToProbing : Prop :=
  ∀ (s : State) (n : NodeIx), s.writingAt 0x009 → s.cmd.arg.toNat = n.val →
    let port := { s.port with ack := true }
    let x := s.node n
    let refused : State := { s with
      cmd := { s.cmd with status := .refusedState, awaited := none }
      err := s.err.take .cmdRefused 0x009, port := port }
    let probing : State := { s with
      cmd := { s.cmd with status := .ok, awaited := none }, port := port
      nodes := s.nodes.set n { x with state := .probing, failCount := 0, matchState := false, reprobe := 0 } }
    let announced := if x.state = .probing then probing else probing.emit .nodeState (BitVec.ofNat 8 n.val) 1 x.state.code
    let needsGapProbe : Prop := x.gapMark = false ∧
      ∀ k : SlotIx, k.val < s.engine.latchedLen → s.slots[k].enabled = true → s.slots[k].node ≠ n
    (x.state = .disabled → exec .nodeReprobe s = .next (State.handOverRetry refused)) ∧
    (∀ w, s.link.work = some w → w.node = n → w.nodeCmd = some .disable →
      exec .nodeReprobe s = .next (State.handOverRetry refused)) ∧
    (x.state ≠ .disabled → (∀ w, s.link.work = some w → w.node ≠ n) →
      (s.engine.state ≠ .waiting ∨ s.link.work ≠ none) →
      exec .nodeReprobe s = .next announced.handOverRetry) ∧
    (x.state ≠ .disabled → s.engine.state = .waiting → s.link.work = none →
      (needsGapProbe → exec .nodeReprobe s = .next announced.choose) ∧
      (¬ needsGapProbe → exec .nodeReprobe s = .next announced)) ∧
    (x.state ≠ .disabled → (∀ w, s.link.work = some w → w.node ≠ n) →
      ∃ t, exec .nodeReprobe s = .next t ∧ (t.node n).state = .probing ∧ (t.node n).failCount = 0 ∧
        t.cmd = probing.cmd) ∧
    (∀ w y, x.state ≠ .disabled → s.link.work = some w → w.node = n → w.phase = .inFlight y →
      w.nodeCmd ≠ some .disable →
      exec .nodeReprobe s = .next (State.handOverRetry { s with
        cmd := { s.cmd with status := .pending, awaited := some .nodeCommand }, port := port
        link := { s.link with work := some { w with nodeCmd := some .reprobe, suppressed := true } } })) ∧
    (∀ w r, x.state ≠ .disabled → s.link.work = some w → w.node = n → w.phase = .retryPending r →
      w.nodeCmd ≠ some .disable →
      ∃ t, exec .nodeReprobe s = .next t ∧ (t.node n).state = .probing ∧ (t.node n).failCount = 0 ∧ t.port = port ∧
        t.cmd = { s.cmd with status := .ok, awaited := none }) ∧
    (∀ w r, s.sound = true → s.link.work = some w → w.node = n → w.phase = .retryPending r →
      exec .nodeReprobe s = .next (State.choose (State.withdrawn { s with
        cmd := { s.cmd with status := .pending, awaited := some .nodeCommand }, port := port }
        { w with nodeCmd := some .reprobe } r)))

/-- R159: EVQ_FLUSH empties the queue, its lost count and its read state in every state, answers OK and produces nothing;
the policy, the mask and the attention registers are kept. -/
def Obligations.FlushEmptiesQueue : Prop :=
  ∀ s : State, s.writingAt 0x009 →
    exec .evqFlush s = .next (State.handOverRetry { s with
      cmd := { s.cmd with status := .ok, awaited := none }, port := { s.port with ack := true }
      evq := { s.evq with
        records := [], lost := 0, overflowed := false, reading := none, headAge := 0, headSub := 0 } })

/-- R82, R36, R31, R60, R97, R113, R126, R146, R162, R166, R20: SCAN_CLEAR is accepted in every state, takes its effect on every
block and leaves the CLEARED record as the only one, with no item open; configuration, outputs, masks, attention and error
capture are kept, and so are the fields of a node and of an entry that the rules do not name. The 2 µs of R2 begin again where
a select line was driven. -/
def Obligations.ScanClearClearsEveryBlock : Prop :=
  ∀ s : State, s.writingAt 0x009 →
    let cleared (x : Node) : Node := { x with
      matchState := false, reprobe := 0, inputAge := 255, baseline := false, due := false, gapMark := false
      input := Vector.replicate 8 0 }
    let driven : Prop := ∃ w x, s.link.work = some w ∧ w.phase = .inFlight x ∧ x.selected = true
    let disabling (n : NodeIx) : Prop := ∃ w, s.link.work = some w ∧ w.node = n ∧ w.nodeCmd = some .disable
    ∃ t, exec .scanClear s = .next t ∧
      t = { s with
        engine := { s.engine with
          state := .stopped, cycle := 0, timer := none, latchedLen := 0, cursor := 0, evaluated := 0, failed := 0
          dropped := 0, overruns := 0 }
        link := { s.link with work := none, prev := .none, rested := t.link.rested }
        order := []
        evq := { s.evq with
          records := [{ kind := .scanState, node := 0xFF, stamp := 0, arg0 := 0, arg1 := 3 }], lost := 0
          overflowed := false, reading := none, headAge := 0, headSub := 0 }
        cmd := { s.cmd with status := .ok, awaited := none }
        port := { s.port with ack := true, staging := [] }
        nodes := t.nodes, txns := t.txns } ∧
      t.evq.records.map (fun r => (List.finRange 6).map r.byte) = [[8, 0xFF, 0, 0, 0, 3]] ∧
      t.sdoRest = true ∧ (∀ k, t.selectLow k = false) ∧ t.sckRest = s.sckRest ∧
      (driven → t.link.rested = false) ∧ (¬ driven → t.link.rested = s.link.rested) ∧
      (∀ n : NodeIx,
        ((s.node n).state = .disabled → t.node n = cleared (s.node n)) ∧
        ((s.node n).state ≠ .disabled → disabling n → t.node n = { cleared (s.node n) with state := .disabled }) ∧
        ((s.node n).state ≠ .disabled → ¬ disabling n →
          t.node n = { cleared (s.node n) with state := .probing, failCount := 0, seq := false, alert := false })) ∧
      (∀ e : TxnIx, t.txn e = { s.txn e with
        state := .free, cancelMark := false
        gen := if (s.txn e).state = .free then (s.txn e).gen else (s.txn e).gen + 1 })

/-! ## The transaction ports -/

/-- R133: ALLOC reserves the lowest-index FREE entry, clears its result fields, keeps its request fields and returns its
handle; with no FREE entry it returns 0xFF, changes no entry and raises no error. A bus timeout after it changes no
entry. -/
def Obligations.AllocTakesLowestFree : Prop :=
  ∀ s : State, s.readingAt 0x038 →
    (∀ e : TxnIx, (s.txn e).state = .free → (∀ k, k < e → (s.txn k).state ≠ .free) →
      exec .alloc s = .next (State.handOverRetry { s with
        txns := s.txns.set e { s.txn e with
          state := .reserved, result := none, attempts := 0, replyStatus := 0, rdata := Vector.replicate 8 0 }
        port := { s.port with
          readDue := false, sdaByte := some (BitVec.ofNat 8 (16 * (s.txn e).gen.toNat + e.val)) } })) ∧
    ((∀ e, (s.txn e).state ≠ .free) → exec .alloc s = .next (State.handOverRetry { s with
      port := { s.port with readDue := false, sdaByte := some 0xFF } })) ∧
    (∀ t u, exec .alloc s = .next t → exec .busTimeout t = .next u → u.txns = t.txns)

/-- R86, R131, R134 to R137: SUBMIT checks the handle, the entry's state and its fields, and queues the entry at the tail; on
an idle link the choice is then made, so that in STOPPED with no due flag it is picked by the same step, to the link or, its
node not being of class CYCLIC, to FAILED with NODE_UNAVAILABLE. R129, R130: a handle names its entry by bits 2–0 and the
generation by bits 7–4, and NODE names the node entry. -/
def Obligations.SubmitQueuesRequest : Prop :=
  (∀ h : Byte, (entryOf h).val = h.toNat % 8) ∧
  (∀ (s : State) (e : TxnIx), (s.handle e).toNat = 16 * (s.txn e).gen.toNat + e.val) ∧
  (∀ x : Txn, x.node.toNat ≤ 15 → x.nodeIx.val = x.node.toNat) ∧
  ∀ (s : State) (h : Byte), s.writingAt 0x039 →
    let e := entryOf h
    let x := s.txn e
    let valid : Prop := h.toNat / 8 % 2 = 0 ∧ h.toNat / 16 = x.gen.toNat
    let legal : Prop := x.node.toNat ≤ 15 ∧ (x.op = 1 ∨ x.op = 2 ∨ x.op = 3) ∧
      (x.op = 3 ∨ (1 ≤ x.count.toNat ∧ x.count.toNat ≤ 8)) ∧ (s.node x.nodeIx).state ≠ .disabled
    let refused (c : HostError) : State := { s with err := s.err.take c 0x039, port := s.port.tookByte }
    (¬ valid ∨ x.state ≠ .reserved → exec (.submit h) s = .next (State.handOverRetry (refused .badHandle))) ∧
    (valid → x.state = .reserved → ¬ legal → exec (.submit h) s = .next (State.handOverRetry (refused .badValue))) ∧
    (valid → x.state = .reserved → legal → s.link.work ≠ none →
      exec (.submit h) s = .next (State.handOverRetry { s with
        txns := s.txns.set e { x with state := .queued }, order := s.order ++ [e], port := s.port.tookByte })) ∧
    (valid → x.state = .reserved → legal → s.link.work = none →
      exec (.submit h) s = .next (State.choose { s with
        txns := s.txns.set e { x with state := .queued }, order := s.order ++ [e], port := s.port.tookByte })) ∧
    (valid → x.state = .reserved → legal → s.link.work = none → s.engine.state = .stopped → s.order = [] →
      (∀ n, (s.node n).due = false) →
      ∃ t, exec (.submit h) s = .next t ∧ t.order = [] ∧
        if (s.node x.nodeIx).state = .online ∨ (s.node x.nodeIx).state = .suspect then
          (t.txn e).state = .active ∧
          let toggle := if x.op = 3 then false else !(s.node x.nodeIx).seq
          let y := s.latch (.txn h) (opOf x.op) x.nodeIx toggle
          let w : WorkItem := {
            cls := .txn h, op := opOf x.op, node := x.nodeIx, toggle := toggle, attempt := 1, suppressed := false
            nodeCmd := none, phase := .inFlight y }
          t = State.withExchange { s with
            txns := s.txns.set e { x with state := .active }, port := s.port.tookByte
            link := { s.link with prev := .txn } } w y
        else t = (State.emit { s with
            txns := s.txns.set e { x with
              state := .failed, result := some .nodeUnavailable, attempts := 0, replyStatus := 0
              rdata := Vector.replicate 8 0, cancelMark := false }
            port := s.port.tookByte } .txnEnd x.node h 6))

/-- R131, R141 to R143: CANCEL frees a RESERVED entry, ends a QUEUED one as CANCELLED, marks an ACTIVE one and suppresses
the retries of its attempt in flight, or withdraws its pending retry, whose last outcome ends it as CANCELLED with its
TXN_END before the choice is made, and is refused for any other. -/
def Obligations.CancelActsOnEntry : Prop :=
  ∀ (s : State) (h : Byte), s.writingAt 0x03A →
    let e := entryOf h
    let x := s.txn e
    let valid : Prop := h.toNat / 8 % 2 = 0 ∧ h.toNat / 16 = x.gen.toNat
    let refused (c : HostError) : State := { s with err := s.err.take c 0x03A, port := s.port.tookByte }
    (¬ valid ∨ x.state = .free → exec (.cancel h) s = .next (State.handOverRetry (refused .badHandle))) ∧
    (valid → (x.state = .done ∨ x.state = .failed ∨ x.state = .cancelled) →
      exec (.cancel h) s = .next (State.handOverRetry (refused .tooLate))) ∧
    (valid → x.state = .reserved → exec (.cancel h) s = .next (State.handOverRetry { s with
      txns := s.txns.set e { x with state := .free, gen := x.gen + 1, cancelMark := false }
      port := s.port.tookByte })) ∧
    (valid → x.state = .queued → exec (.cancel h) s = .next (State.handOverRetry (State.emit { s with
      order := s.order.erase e
      txns := s.txns.set e { x with
        state := .cancelled, result := some .cancelled, attempts := 0, replyStatus := 0
        rdata := Vector.replicate 8 0, cancelMark := false }
      port := s.port.tookByte } .txnEnd x.node h 7))) ∧
    (∀ w y, valid → x.state = .active → s.link.work = some w → w.cls = .txn h → w.phase = .inFlight y →
      exec (.cancel h) s = .next (State.handOverRetry { s with
        txns := s.txns.set e { x with cancelMark := true }
        link := { s.link with work := some { w with suppressed := true } }
        port := s.port.tookByte })) ∧
    (∀ w r, valid → x.state = .active → e ∉ s.order → s.link.work = some w → w.cls = .txn h →
      w.phase = .retryPending r → r.outcome ≠ .ok → ∃ t, exec (.cancel h) s = .next t ∧ (t.txn e).state = .cancelled ∧
        (t.txn e).result = some .cancelled ∧ t.port = s.port.tookByte) ∧
    (∀ w r, s.sound = true → s.link.work = some w → w.cls = .txn h → w.phase = .retryPending r →
      exec (.cancel h) s = .next (State.choose (State.withdrawn { s with
        txns := s.txns.set e { x with cancelMark := true }, port := s.port.tookByte } w r)))

/-- R131, R144: RELEASE frees a terminal entry, advances its GEN and keeps its other fields, so the handle no longer
matches; QUEUED and ACTIVE are refused as TOO_LATE, FREE and RESERVED and a wrong handle as BAD_HANDLE. -/
def Obligations.ReleaseFreesTerminalEntry : Prop :=
  ∀ (s : State) (h : Byte), s.writingAt 0x03B →
    let e := entryOf h
    let x := s.txn e
    let valid : Prop := h.toNat / 8 % 2 = 0 ∧ h.toNat / 16 = x.gen.toNat
    let refused (c : HostError) : State := { s with err := s.err.take c 0x03B, port := s.port.tookByte }
    (valid → (x.state = .done ∨ x.state = .failed ∨ x.state = .cancelled) →
      ∃ t : State, t = { s with
        txns := s.txns.set e { x with state := .free, gen := x.gen + 1, cancelMark := false }
        port := s.port.tookByte } ∧
      exec (.release h) s = .next t.handOverRetry ∧ t.handleValid h = false) ∧
    (valid → (x.state = .queued ∨ x.state = .active) →
      exec (.release h) s = .next (State.handOverRetry (refused .tooLate))) ∧
    (¬ valid ∨ x.state = .free ∨ x.state = .reserved →
      exec (.release h) s = .next (State.handOverRetry (refused .badHandle)))

/-! ## The event queue and attention -/

/-- R149 to R155: what becomes of an event that is produced: dropped by the mask, lost while overflowed, merged into the
node's last INPUT_CHANGE that is not open, and without such a record appended while there is room and handled by the loss
policy when there is none. Nothing but the queue changes. Each kind has the code and the mask bit of its table, and
the head is open exactly while the open item is the stored one. -/
def Obligations.EventDisposal : Prop :=
  [EventKind.reset, .inputChange, .matchEvent, .nodeState, .nodeAlert, .txnEnd, .cycleDone, .cycleOverrun,
    .scanState].map EventKind.code = [0, 1, 2, 3, 4, 5, 6, 7, 8] ∧
  (∀ q : Evq, q.headOpen = true ↔ ∃ k, q.reading = some { item := .stored, next := k }) ∧
  ∀ (s : State) (k : EventKind) (n a b : Byte),
    let ev : Record := { kind := k, node := n, stamp := s.engine.cycle, arg0 := a, arg1 := b }
    let q := s.evq
    let shut : Prop := k ≠ .reset ∧ k ≠ .txnEnd ∧ q.kindEnable.getLsbD k.code.toNat = false
    let overflowed : Prop := q.policy = .keepOldest ∧ q.overflowed = true
    let closed := if q.headOpen then q.records.tail else q.records
    let apart : Prop := k = .inputChange → ∀ r ∈ closed, r.kind = .inputChange → r.node ≠ n
    let lost := if q.lost < 65535 then q.lost + 1 else q.lost
    let into (q' : Evq) : State := { s with evq := q' }
    (shut → s.emit k n a b = s) ∧
    (¬ shut → overflowed → s.emit k n a b = into { q with lost := lost }) ∧
    (¬ shut → ¬ overflowed → k = .inputChange → ∀ before r after, q.records = before ++ r :: after →
      r.kind = .inputChange → r.node = n → (∀ r' ∈ after, r'.kind = .inputChange → r'.node ≠ n) →
      (before = [] → q.headOpen = false) →
      s.emit k n a b = into { q with records := before ++ { r with
        arg0 := r.arg0 ||| a, arg1 := if r.arg1 = 255 then 255 else r.arg1 + 1, stamp := s.engine.cycle } :: after }) ∧
    (¬ shut → ¬ overflowed → apart → q.records.length < 32 → q.records ≠ [] →
      s.emit k n a b = into { q with records := q.records ++ [ev] }) ∧
    (¬ shut → ¬ overflowed → q.records = [] →
      s.emit k n a b = into { q with records := [ev], headAge := 0, headSub := 0 }) ∧
    (¬ shut → ¬ overflowed → apart → 32 ≤ q.records.length → q.policy = .keepOldest →
      s.emit k n a b = into { q with lost := lost, overflowed := true }) ∧
    (¬ shut → apart → q.policy = .keepNewest → ∀ first second rest, q.records = first :: second :: rest →
      32 ≤ q.records.length →
      s.emit k n a b = into (if q.headOpen
        then { q with lost := lost, records := first :: rest ++ [ev] }
        else { q with lost := lost, records := second :: rest ++ [ev], headAge := 0, headSub := 0 }))

/-- R148, R149, R153, R156 to R158: each byte read at EVQ_DATA is the next byte of the open item, which is begun if none is
open; the six bytes of a stored record, of a report and of EMPTY are as R148 lays them out, a report and EMPTY being latched at
their first byte; the sixth byte removes a stored record, subtracts a report's count, or drops EMPTY. The pointer stays. -/
def Obligations.QueueReadReturnsItems : Prop :=
  [EventKind.reset, .inputChange, .matchEvent, .nodeState, .nodeAlert, .txnEnd, .cycleDone, .cycleOverrun,
    .scanState].map EventKind.code = [0, 1, 2, 3, 4, 5, 6, 7, 8] ∧
  ∀ s : State, s.readingAt 0x020 →
    let q := s.evq
    let gave (b : Byte) (q' : Evq) : State := { s with
      evq := q', port := { s.port with readDue := false, sdaByte := some b } }
    let item (kind node : Byte) (stamp : Half) (arg0 arg1 : Byte) (k : Fin 6) : Byte :=
      [kind, node, BitVec.ofNat 8 (stamp.toNat / 256), BitVec.ofNat 8 (stamp.toNat % 256), arg0, arg1].getD k.val 0
    let goesOn (i : OpenItem) (k : Fin 6) : Evq := { q with reading := some { item := i, next := k + 1 } }
    (∀ (r : Record) (k : Fin 6), r.byte k = item r.kind.code r.node r.stamp r.arg0 r.arg1 k) ∧
    (∀ r rest, q.reading = none → q.records = r :: rest → (q.policy = .keepOldest ∨ q.lost = 0) →
      exec .evqDataRead s = .next (State.handOverRetry
        (gave r.kind.code { q with reading := some { item := .stored, next := 1 } }))) ∧
    (∀ r rest (k : Fin 6), q.reading = some { item := .stored, next := k } → q.records = r :: rest →
      exec .evqDataRead s = .next (State.handOverRetry (gave (item r.kind.code r.node r.stamp r.arg0 r.arg1 k) (if k = 5
        then { q with records := rest, reading := none, headAge := 0, headSub := 0 } else goesOn .stored k)))) ∧
    (q.reading = none → q.sound = true → 0 < q.lost → (q.policy = .keepNewest ∨ q.records = []) →
      exec .evqDataRead s = .next (State.handOverRetry (gave 9
        { q with reading := some { item := .report s.engine.cycle q.lost, next := 1 } }))) ∧
    (∀ stamp count (k : Fin 6), q.reading = some { item := .report stamp count, next := k } → q.sound = true →
      exec .evqDataRead s = .next (State.handOverRetry (gave
        (item 9 0xFF stamp (BitVec.ofNat 8 (count / 256)) (BitVec.ofNat 8 (count % 256)) k) (if k = 5
        then { q with reading := none, lost := q.lost - count
                      overflowed := q.policy == .keepOldest && decide (count < q.lost) }
        else goesOn (.report stamp count) k)))) ∧
    (q.reading = none → q.sound = true → q.lost = 0 → q.records = [] →
      exec .evqDataRead s = .next (State.handOverRetry (gave 15
        { q with reading := some { item := .empty s.engine.cycle, next := 1 } }))) ∧
    (∀ stamp (k : Fin 6), q.reading = some { item := .empty stamp, next := k } →
      exec .evqDataRead s = .next (State.handOverRetry (gave (item 15 0xFF stamp 0 0 k) (if k = 5
        then { q with reading := none } else goesOn (.empty stamp) k))))

/-- R156, R165 to R167: when a report is pending, the causes and the line in ATTN_CAUSE, and the expiry of the attention delay,
which raises EVQ_READY by age and changes nothing else. -/
def Obligations.AttentionCauses : Prop :=
  (∀ q : Evq, q.reportPending = true ↔
    (q.policy = .keepOldest ∧ q.overflowed = true) ∨ (q.policy = .keepNewest ∧ 0 < q.lost)) ∧
  (∀ s : State,
    let ready : Prop := s.attn.level.toNat ≤ s.evq.records.length ∨ s.evq.reportPending = true ∨
      (s.attn.delay ≠ 0 ∧ s.evq.records ≠ [] ∧ s.attn.delay.toNat ≤ s.evq.headAge)
    let low : Prop := s.power = .running ∧
      ((ready ∧ s.attn.mask.getLsbD 0 = true) ∨ (s.err.flag = true ∧ s.attn.mask.getLsbD 1 = true))
    let read := s.readReg (regAt 0x02B)
    (s.attnLow = true ↔ low) ∧ (read.getLsbD 0 = true ↔ ready) ∧ (read.getLsbD 1 = true ↔ s.err.flag = true) ∧
    (read.getLsbD 7 = true ↔ low) ∧ ∀ k, 2 ≤ k → k ≤ 6 → read.getLsbD k = false) ∧
  (∀ s : State, s.port.readDue = false → s.evq.records ≠ [] → s.attn.delay ≠ 0 → s.evq.headAge < s.attn.delay.toNat →
    exec .attnDelayExpiry s = .next (State.handOverRetry { s with
      evq := { s.evq with headAge := s.attn.delay.toNat, headSub := 0 } }))
end

