-- ==== Sys2Proof/Laws/State.lean ====
section
/-! SUPPORT. What each single update of a state does to each field of it, and to each entry of its tables. -/

namespace Sys2Proof.Machine

/-! ## setNode -/

@[simp] theorem State.setNode_power (s : State) (n : NodeIx) (x : Node) : (s.setNode n x).power = s.power := rfl
@[simp] theorem State.setNode_nodes (s : State) (n : NodeIx) (x : Node) : (s.setNode n x).nodes = s.nodes.set n x := rfl
@[simp] theorem State.setNode_slots (s : State) (n : NodeIx) (x : Node) : (s.setNode n x).slots = s.slots := rfl
@[simp] theorem State.setNode_engine (s : State) (n : NodeIx) (x : Node) : (s.setNode n x).engine = s.engine := rfl
@[simp] theorem State.setNode_link (s : State) (n : NodeIx) (x : Node) : (s.setNode n x).link = s.link := rfl
@[simp] theorem State.setNode_txns (s : State) (n : NodeIx) (x : Node) : (s.setNode n x).txns = s.txns := rfl
@[simp] theorem State.setNode_order (s : State) (n : NodeIx) (x : Node) : (s.setNode n x).order = s.order := rfl
@[simp] theorem State.setNode_evq (s : State) (n : NodeIx) (x : Node) : (s.setNode n x).evq = s.evq := rfl
@[simp] theorem State.setNode_attn (s : State) (n : NodeIx) (x : Node) : (s.setNode n x).attn = s.attn := rfl
@[simp] theorem State.setNode_err (s : State) (n : NodeIx) (x : Node) : (s.setNode n x).err = s.err := rfl
@[simp] theorem State.setNode_cmd (s : State) (n : NodeIx) (x : Node) : (s.setNode n x).cmd = s.cmd := rfl
@[simp] theorem State.setNode_port (s : State) (n : NodeIx) (x : Node) : (s.setNode n x).port = s.port := rfl
@[simp] theorem State.setNode_adrPins (s : State) (n : NodeIx) (x : Node) : (s.setNode n x).adrPins = s.adrPins := rfl
@[simp] theorem State.setNode_pending (s : State) (n : NodeIx) (x : Node) : (s.setNode n x).pending = s.pending := rfl

/-! ## modNode -/

@[simp] theorem State.modNode_power (s : State) (n : NodeIx) (f : Node → Node) : (s.modNode n f).power = s.power := rfl
@[simp] theorem State.modNode_nodes (s : State) (n : NodeIx) (f : Node → Node) : (s.modNode n f).nodes = s.nodes.set n (f (s.node n)) := rfl
@[simp] theorem State.modNode_slots (s : State) (n : NodeIx) (f : Node → Node) : (s.modNode n f).slots = s.slots := rfl
@[simp] theorem State.modNode_engine (s : State) (n : NodeIx) (f : Node → Node) : (s.modNode n f).engine = s.engine := rfl
@[simp] theorem State.modNode_link (s : State) (n : NodeIx) (f : Node → Node) : (s.modNode n f).link = s.link := rfl
@[simp] theorem State.modNode_txns (s : State) (n : NodeIx) (f : Node → Node) : (s.modNode n f).txns = s.txns := rfl
@[simp] theorem State.modNode_order (s : State) (n : NodeIx) (f : Node → Node) : (s.modNode n f).order = s.order := rfl
@[simp] theorem State.modNode_evq (s : State) (n : NodeIx) (f : Node → Node) : (s.modNode n f).evq = s.evq := rfl
@[simp] theorem State.modNode_attn (s : State) (n : NodeIx) (f : Node → Node) : (s.modNode n f).attn = s.attn := rfl
@[simp] theorem State.modNode_err (s : State) (n : NodeIx) (f : Node → Node) : (s.modNode n f).err = s.err := rfl
@[simp] theorem State.modNode_cmd (s : State) (n : NodeIx) (f : Node → Node) : (s.modNode n f).cmd = s.cmd := rfl
@[simp] theorem State.modNode_port (s : State) (n : NodeIx) (f : Node → Node) : (s.modNode n f).port = s.port := rfl
@[simp] theorem State.modNode_adrPins (s : State) (n : NodeIx) (f : Node → Node) : (s.modNode n f).adrPins = s.adrPins := rfl
@[simp] theorem State.modNode_pending (s : State) (n : NodeIx) (f : Node → Node) : (s.modNode n f).pending = s.pending := rfl

/-! ## mapNodes -/

@[simp] theorem State.mapNodes_power (s : State) (f : Node → Node) : (s.mapNodes f).power = s.power := rfl
@[simp] theorem State.mapNodes_nodes (s : State) (f : Node → Node) : (s.mapNodes f).nodes = tabMap f s.nodes := rfl
@[simp] theorem State.mapNodes_slots (s : State) (f : Node → Node) : (s.mapNodes f).slots = s.slots := rfl
@[simp] theorem State.mapNodes_engine (s : State) (f : Node → Node) : (s.mapNodes f).engine = s.engine := rfl
@[simp] theorem State.mapNodes_link (s : State) (f : Node → Node) : (s.mapNodes f).link = s.link := rfl
@[simp] theorem State.mapNodes_txns (s : State) (f : Node → Node) : (s.mapNodes f).txns = s.txns := rfl
@[simp] theorem State.mapNodes_order (s : State) (f : Node → Node) : (s.mapNodes f).order = s.order := rfl
@[simp] theorem State.mapNodes_evq (s : State) (f : Node → Node) : (s.mapNodes f).evq = s.evq := rfl
@[simp] theorem State.mapNodes_attn (s : State) (f : Node → Node) : (s.mapNodes f).attn = s.attn := rfl
@[simp] theorem State.mapNodes_err (s : State) (f : Node → Node) : (s.mapNodes f).err = s.err := rfl
@[simp] theorem State.mapNodes_cmd (s : State) (f : Node → Node) : (s.mapNodes f).cmd = s.cmd := rfl
@[simp] theorem State.mapNodes_port (s : State) (f : Node → Node) : (s.mapNodes f).port = s.port := rfl
@[simp] theorem State.mapNodes_adrPins (s : State) (f : Node → Node) : (s.mapNodes f).adrPins = s.adrPins := rfl
@[simp] theorem State.mapNodes_pending (s : State) (f : Node → Node) : (s.mapNodes f).pending = s.pending := rfl

/-! ## setTxn -/

@[simp] theorem State.setTxn_power (s : State) (e : TxnIx) (x : Txn) : (s.setTxn e x).power = s.power := rfl
@[simp] theorem State.setTxn_nodes (s : State) (e : TxnIx) (x : Txn) : (s.setTxn e x).nodes = s.nodes := rfl
@[simp] theorem State.setTxn_slots (s : State) (e : TxnIx) (x : Txn) : (s.setTxn e x).slots = s.slots := rfl
@[simp] theorem State.setTxn_engine (s : State) (e : TxnIx) (x : Txn) : (s.setTxn e x).engine = s.engine := rfl
@[simp] theorem State.setTxn_link (s : State) (e : TxnIx) (x : Txn) : (s.setTxn e x).link = s.link := rfl
@[simp] theorem State.setTxn_txns (s : State) (e : TxnIx) (x : Txn) : (s.setTxn e x).txns = s.txns.set e x := rfl
@[simp] theorem State.setTxn_order (s : State) (e : TxnIx) (x : Txn) : (s.setTxn e x).order = s.order := rfl
@[simp] theorem State.setTxn_evq (s : State) (e : TxnIx) (x : Txn) : (s.setTxn e x).evq = s.evq := rfl
@[simp] theorem State.setTxn_attn (s : State) (e : TxnIx) (x : Txn) : (s.setTxn e x).attn = s.attn := rfl
@[simp] theorem State.setTxn_err (s : State) (e : TxnIx) (x : Txn) : (s.setTxn e x).err = s.err := rfl
@[simp] theorem State.setTxn_cmd (s : State) (e : TxnIx) (x : Txn) : (s.setTxn e x).cmd = s.cmd := rfl
@[simp] theorem State.setTxn_port (s : State) (e : TxnIx) (x : Txn) : (s.setTxn e x).port = s.port := rfl
@[simp] theorem State.setTxn_adrPins (s : State) (e : TxnIx) (x : Txn) : (s.setTxn e x).adrPins = s.adrPins := rfl
@[simp] theorem State.setTxn_pending (s : State) (e : TxnIx) (x : Txn) : (s.setTxn e x).pending = s.pending := rfl

/-! ## modTxn -/

@[simp] theorem State.modTxn_power (s : State) (e : TxnIx) (f : Txn → Txn) : (s.modTxn e f).power = s.power := rfl
@[simp] theorem State.modTxn_nodes (s : State) (e : TxnIx) (f : Txn → Txn) : (s.modTxn e f).nodes = s.nodes := rfl
@[simp] theorem State.modTxn_slots (s : State) (e : TxnIx) (f : Txn → Txn) : (s.modTxn e f).slots = s.slots := rfl
@[simp] theorem State.modTxn_engine (s : State) (e : TxnIx) (f : Txn → Txn) : (s.modTxn e f).engine = s.engine := rfl
@[simp] theorem State.modTxn_link (s : State) (e : TxnIx) (f : Txn → Txn) : (s.modTxn e f).link = s.link := rfl
@[simp] theorem State.modTxn_txns (s : State) (e : TxnIx) (f : Txn → Txn) : (s.modTxn e f).txns = s.txns.set e (f (s.txn e)) := rfl
@[simp] theorem State.modTxn_order (s : State) (e : TxnIx) (f : Txn → Txn) : (s.modTxn e f).order = s.order := rfl
@[simp] theorem State.modTxn_evq (s : State) (e : TxnIx) (f : Txn → Txn) : (s.modTxn e f).evq = s.evq := rfl
@[simp] theorem State.modTxn_attn (s : State) (e : TxnIx) (f : Txn → Txn) : (s.modTxn e f).attn = s.attn := rfl
@[simp] theorem State.modTxn_err (s : State) (e : TxnIx) (f : Txn → Txn) : (s.modTxn e f).err = s.err := rfl
@[simp] theorem State.modTxn_cmd (s : State) (e : TxnIx) (f : Txn → Txn) : (s.modTxn e f).cmd = s.cmd := rfl
@[simp] theorem State.modTxn_port (s : State) (e : TxnIx) (f : Txn → Txn) : (s.modTxn e f).port = s.port := rfl
@[simp] theorem State.modTxn_adrPins (s : State) (e : TxnIx) (f : Txn → Txn) : (s.modTxn e f).adrPins = s.adrPins := rfl
@[simp] theorem State.modTxn_pending (s : State) (e : TxnIx) (f : Txn → Txn) : (s.modTxn e f).pending = s.pending := rfl

/-! ## modEngine -/

@[simp] theorem State.modEngine_power (s : State) (f : Engine → Engine) : (s.modEngine f).power = s.power := rfl
@[simp] theorem State.modEngine_nodes (s : State) (f : Engine → Engine) : (s.modEngine f).nodes = s.nodes := rfl
@[simp] theorem State.modEngine_slots (s : State) (f : Engine → Engine) : (s.modEngine f).slots = s.slots := rfl
@[simp] theorem State.modEngine_engine (s : State) (f : Engine → Engine) : (s.modEngine f).engine = f s.engine := rfl
@[simp] theorem State.modEngine_link (s : State) (f : Engine → Engine) : (s.modEngine f).link = s.link := rfl
@[simp] theorem State.modEngine_txns (s : State) (f : Engine → Engine) : (s.modEngine f).txns = s.txns := rfl
@[simp] theorem State.modEngine_order (s : State) (f : Engine → Engine) : (s.modEngine f).order = s.order := rfl
@[simp] theorem State.modEngine_evq (s : State) (f : Engine → Engine) : (s.modEngine f).evq = s.evq := rfl
@[simp] theorem State.modEngine_attn (s : State) (f : Engine → Engine) : (s.modEngine f).attn = s.attn := rfl
@[simp] theorem State.modEngine_err (s : State) (f : Engine → Engine) : (s.modEngine f).err = s.err := rfl
@[simp] theorem State.modEngine_cmd (s : State) (f : Engine → Engine) : (s.modEngine f).cmd = s.cmd := rfl
@[simp] theorem State.modEngine_port (s : State) (f : Engine → Engine) : (s.modEngine f).port = s.port := rfl
@[simp] theorem State.modEngine_adrPins (s : State) (f : Engine → Engine) : (s.modEngine f).adrPins = s.adrPins := rfl
@[simp] theorem State.modEngine_pending (s : State) (f : Engine → Engine) : (s.modEngine f).pending = s.pending := rfl

/-! ## modLink -/

@[simp] theorem State.modLink_power (s : State) (f : Link → Link) : (s.modLink f).power = s.power := rfl
@[simp] theorem State.modLink_nodes (s : State) (f : Link → Link) : (s.modLink f).nodes = s.nodes := rfl
@[simp] theorem State.modLink_slots (s : State) (f : Link → Link) : (s.modLink f).slots = s.slots := rfl
@[simp] theorem State.modLink_engine (s : State) (f : Link → Link) : (s.modLink f).engine = s.engine := rfl
@[simp] theorem State.modLink_link (s : State) (f : Link → Link) : (s.modLink f).link = f s.link := rfl
@[simp] theorem State.modLink_txns (s : State) (f : Link → Link) : (s.modLink f).txns = s.txns := rfl
@[simp] theorem State.modLink_order (s : State) (f : Link → Link) : (s.modLink f).order = s.order := rfl
@[simp] theorem State.modLink_evq (s : State) (f : Link → Link) : (s.modLink f).evq = s.evq := rfl
@[simp] theorem State.modLink_attn (s : State) (f : Link → Link) : (s.modLink f).attn = s.attn := rfl
@[simp] theorem State.modLink_err (s : State) (f : Link → Link) : (s.modLink f).err = s.err := rfl
@[simp] theorem State.modLink_cmd (s : State) (f : Link → Link) : (s.modLink f).cmd = s.cmd := rfl
@[simp] theorem State.modLink_port (s : State) (f : Link → Link) : (s.modLink f).port = s.port := rfl
@[simp] theorem State.modLink_adrPins (s : State) (f : Link → Link) : (s.modLink f).adrPins = s.adrPins := rfl
@[simp] theorem State.modLink_pending (s : State) (f : Link → Link) : (s.modLink f).pending = s.pending := rfl

/-! ## modEvq -/

@[simp] theorem State.modEvq_power (s : State) (f : Evq → Evq) : (s.modEvq f).power = s.power := rfl
@[simp] theorem State.modEvq_nodes (s : State) (f : Evq → Evq) : (s.modEvq f).nodes = s.nodes := rfl
@[simp] theorem State.modEvq_slots (s : State) (f : Evq → Evq) : (s.modEvq f).slots = s.slots := rfl
@[simp] theorem State.modEvq_engine (s : State) (f : Evq → Evq) : (s.modEvq f).engine = s.engine := rfl
@[simp] theorem State.modEvq_link (s : State) (f : Evq → Evq) : (s.modEvq f).link = s.link := rfl
@[simp] theorem State.modEvq_txns (s : State) (f : Evq → Evq) : (s.modEvq f).txns = s.txns := rfl
@[simp] theorem State.modEvq_order (s : State) (f : Evq → Evq) : (s.modEvq f).order = s.order := rfl
@[simp] theorem State.modEvq_evq (s : State) (f : Evq → Evq) : (s.modEvq f).evq = f s.evq := rfl
@[simp] theorem State.modEvq_attn (s : State) (f : Evq → Evq) : (s.modEvq f).attn = s.attn := rfl
@[simp] theorem State.modEvq_err (s : State) (f : Evq → Evq) : (s.modEvq f).err = s.err := rfl
@[simp] theorem State.modEvq_cmd (s : State) (f : Evq → Evq) : (s.modEvq f).cmd = s.cmd := rfl
@[simp] theorem State.modEvq_port (s : State) (f : Evq → Evq) : (s.modEvq f).port = s.port := rfl
@[simp] theorem State.modEvq_adrPins (s : State) (f : Evq → Evq) : (s.modEvq f).adrPins = s.adrPins := rfl
@[simp] theorem State.modEvq_pending (s : State) (f : Evq → Evq) : (s.modEvq f).pending = s.pending := rfl

/-! ## modAttn -/

@[simp] theorem State.modAttn_power (s : State) (f : Attn → Attn) : (s.modAttn f).power = s.power := rfl
@[simp] theorem State.modAttn_nodes (s : State) (f : Attn → Attn) : (s.modAttn f).nodes = s.nodes := rfl
@[simp] theorem State.modAttn_slots (s : State) (f : Attn → Attn) : (s.modAttn f).slots = s.slots := rfl
@[simp] theorem State.modAttn_engine (s : State) (f : Attn → Attn) : (s.modAttn f).engine = s.engine := rfl
@[simp] theorem State.modAttn_link (s : State) (f : Attn → Attn) : (s.modAttn f).link = s.link := rfl
@[simp] theorem State.modAttn_txns (s : State) (f : Attn → Attn) : (s.modAttn f).txns = s.txns := rfl
@[simp] theorem State.modAttn_order (s : State) (f : Attn → Attn) : (s.modAttn f).order = s.order := rfl
@[simp] theorem State.modAttn_evq (s : State) (f : Attn → Attn) : (s.modAttn f).evq = s.evq := rfl
@[simp] theorem State.modAttn_attn (s : State) (f : Attn → Attn) : (s.modAttn f).attn = f s.attn := rfl
@[simp] theorem State.modAttn_err (s : State) (f : Attn → Attn) : (s.modAttn f).err = s.err := rfl
@[simp] theorem State.modAttn_cmd (s : State) (f : Attn → Attn) : (s.modAttn f).cmd = s.cmd := rfl
@[simp] theorem State.modAttn_port (s : State) (f : Attn → Attn) : (s.modAttn f).port = s.port := rfl
@[simp] theorem State.modAttn_adrPins (s : State) (f : Attn → Attn) : (s.modAttn f).adrPins = s.adrPins := rfl
@[simp] theorem State.modAttn_pending (s : State) (f : Attn → Attn) : (s.modAttn f).pending = s.pending := rfl

/-! ## modPort -/

@[simp] theorem State.modPort_power (s : State) (f : Port → Port) : (s.modPort f).power = s.power := rfl
@[simp] theorem State.modPort_nodes (s : State) (f : Port → Port) : (s.modPort f).nodes = s.nodes := rfl
@[simp] theorem State.modPort_slots (s : State) (f : Port → Port) : (s.modPort f).slots = s.slots := rfl
@[simp] theorem State.modPort_engine (s : State) (f : Port → Port) : (s.modPort f).engine = s.engine := rfl
@[simp] theorem State.modPort_link (s : State) (f : Port → Port) : (s.modPort f).link = s.link := rfl
@[simp] theorem State.modPort_txns (s : State) (f : Port → Port) : (s.modPort f).txns = s.txns := rfl
@[simp] theorem State.modPort_order (s : State) (f : Port → Port) : (s.modPort f).order = s.order := rfl
@[simp] theorem State.modPort_evq (s : State) (f : Port → Port) : (s.modPort f).evq = s.evq := rfl
@[simp] theorem State.modPort_attn (s : State) (f : Port → Port) : (s.modPort f).attn = s.attn := rfl
@[simp] theorem State.modPort_err (s : State) (f : Port → Port) : (s.modPort f).err = s.err := rfl
@[simp] theorem State.modPort_cmd (s : State) (f : Port → Port) : (s.modPort f).cmd = s.cmd := rfl
@[simp] theorem State.modPort_port (s : State) (f : Port → Port) : (s.modPort f).port = f s.port := rfl
@[simp] theorem State.modPort_adrPins (s : State) (f : Port → Port) : (s.modPort f).adrPins = s.adrPins := rfl
@[simp] theorem State.modPort_pending (s : State) (f : Port → Port) : (s.modPort f).pending = s.pending := rfl

/-! ## raise -/

@[simp] theorem State.raise_power (s : State) (e : HostError) (a : Addr) : (s.raise e a).power = s.power := rfl
@[simp] theorem State.raise_nodes (s : State) (e : HostError) (a : Addr) : (s.raise e a).nodes = s.nodes := rfl
@[simp] theorem State.raise_slots (s : State) (e : HostError) (a : Addr) : (s.raise e a).slots = s.slots := rfl
@[simp] theorem State.raise_engine (s : State) (e : HostError) (a : Addr) : (s.raise e a).engine = s.engine := rfl
@[simp] theorem State.raise_link (s : State) (e : HostError) (a : Addr) : (s.raise e a).link = s.link := rfl
@[simp] theorem State.raise_txns (s : State) (e : HostError) (a : Addr) : (s.raise e a).txns = s.txns := rfl
@[simp] theorem State.raise_order (s : State) (e : HostError) (a : Addr) : (s.raise e a).order = s.order := rfl
@[simp] theorem State.raise_evq (s : State) (e : HostError) (a : Addr) : (s.raise e a).evq = s.evq := rfl
@[simp] theorem State.raise_attn (s : State) (e : HostError) (a : Addr) : (s.raise e a).attn = s.attn := rfl
@[simp] theorem State.raise_err (s : State) (e : HostError) (a : Addr) : (s.raise e a).err = s.err.take e a := rfl
@[simp] theorem State.raise_cmd (s : State) (e : HostError) (a : Addr) : (s.raise e a).cmd = s.cmd := rfl
@[simp] theorem State.raise_port (s : State) (e : HostError) (a : Addr) : (s.raise e a).port = s.port := rfl
@[simp] theorem State.raise_adrPins (s : State) (e : HostError) (a : Addr) : (s.raise e a).adrPins = s.adrPins := rfl
@[simp] theorem State.raise_pending (s : State) (e : HostError) (a : Addr) : (s.raise e a).pending = s.pending := rfl

/-! ## raiseHere -/

@[simp] theorem State.raiseHere_power (s : State) (e : HostError) : (s.raiseHere e).power = s.power := rfl
@[simp] theorem State.raiseHere_nodes (s : State) (e : HostError) : (s.raiseHere e).nodes = s.nodes := rfl
@[simp] theorem State.raiseHere_slots (s : State) (e : HostError) : (s.raiseHere e).slots = s.slots := rfl
@[simp] theorem State.raiseHere_engine (s : State) (e : HostError) : (s.raiseHere e).engine = s.engine := rfl
@[simp] theorem State.raiseHere_link (s : State) (e : HostError) : (s.raiseHere e).link = s.link := rfl
@[simp] theorem State.raiseHere_txns (s : State) (e : HostError) : (s.raiseHere e).txns = s.txns := rfl
@[simp] theorem State.raiseHere_order (s : State) (e : HostError) : (s.raiseHere e).order = s.order := rfl
@[simp] theorem State.raiseHere_evq (s : State) (e : HostError) : (s.raiseHere e).evq = s.evq := rfl
@[simp] theorem State.raiseHere_attn (s : State) (e : HostError) : (s.raiseHere e).attn = s.attn := rfl
@[simp] theorem State.raiseHere_err (s : State) (e : HostError) : (s.raiseHere e).err = s.err.take e s.port.pointer := rfl
@[simp] theorem State.raiseHere_cmd (s : State) (e : HostError) : (s.raiseHere e).cmd = s.cmd := rfl
@[simp] theorem State.raiseHere_port (s : State) (e : HostError) : (s.raiseHere e).port = s.port := rfl
@[simp] theorem State.raiseHere_adrPins (s : State) (e : HostError) : (s.raiseHere e).adrPins = s.adrPins := rfl
@[simp] theorem State.raiseHere_pending (s : State) (e : HostError) : (s.raiseHere e).pending = s.pending := rfl

/-! ## answer -/

@[simp] theorem State.answer_power (s : State) (c : CmdStatus) : (s.answer c).power = s.power := rfl
@[simp] theorem State.answer_nodes (s : State) (c : CmdStatus) : (s.answer c).nodes = s.nodes := rfl
@[simp] theorem State.answer_slots (s : State) (c : CmdStatus) : (s.answer c).slots = s.slots := rfl
@[simp] theorem State.answer_engine (s : State) (c : CmdStatus) : (s.answer c).engine = s.engine := rfl
@[simp] theorem State.answer_link (s : State) (c : CmdStatus) : (s.answer c).link = s.link := rfl
@[simp] theorem State.answer_txns (s : State) (c : CmdStatus) : (s.answer c).txns = s.txns := rfl
@[simp] theorem State.answer_order (s : State) (c : CmdStatus) : (s.answer c).order = s.order := rfl
@[simp] theorem State.answer_evq (s : State) (c : CmdStatus) : (s.answer c).evq = s.evq := rfl
@[simp] theorem State.answer_attn (s : State) (c : CmdStatus) : (s.answer c).attn = s.attn := rfl
@[simp] theorem State.answer_err (s : State) (c : CmdStatus) : (s.answer c).err = s.err := rfl
@[simp] theorem State.answer_cmd (s : State) (c : CmdStatus) : (s.answer c).cmd = { s.cmd with status := c, awaited := none } := rfl
@[simp] theorem State.answer_port (s : State) (c : CmdStatus) : (s.answer c).port = s.port := rfl
@[simp] theorem State.answer_adrPins (s : State) (c : CmdStatus) : (s.answer c).adrPins = s.adrPins := rfl
@[simp] theorem State.answer_pending (s : State) (c : CmdStatus) : (s.answer c).pending = s.pending := rfl

/-! ## answerPending -/

@[simp] theorem State.answerPending_power (s : State) (w : Awaited) : (s.answerPending w).power = s.power := rfl
@[simp] theorem State.answerPending_nodes (s : State) (w : Awaited) : (s.answerPending w).nodes = s.nodes := rfl
@[simp] theorem State.answerPending_slots (s : State) (w : Awaited) : (s.answerPending w).slots = s.slots := rfl
@[simp] theorem State.answerPending_engine (s : State) (w : Awaited) : (s.answerPending w).engine = s.engine := rfl
@[simp] theorem State.answerPending_link (s : State) (w : Awaited) : (s.answerPending w).link = s.link := rfl
@[simp] theorem State.answerPending_txns (s : State) (w : Awaited) : (s.answerPending w).txns = s.txns := rfl
@[simp] theorem State.answerPending_order (s : State) (w : Awaited) : (s.answerPending w).order = s.order := rfl
@[simp] theorem State.answerPending_evq (s : State) (w : Awaited) : (s.answerPending w).evq = s.evq := rfl
@[simp] theorem State.answerPending_attn (s : State) (w : Awaited) : (s.answerPending w).attn = s.attn := rfl
@[simp] theorem State.answerPending_err (s : State) (w : Awaited) : (s.answerPending w).err = s.err := rfl
@[simp] theorem State.answerPending_cmd (s : State) (w : Awaited) : (s.answerPending w).cmd = { s.cmd with status := .pending, awaited := some w } := rfl
@[simp] theorem State.answerPending_port (s : State) (w : Awaited) : (s.answerPending w).port = s.port := rfl
@[simp] theorem State.answerPending_adrPins (s : State) (w : Awaited) : (s.answerPending w).adrPins = s.adrPins := rfl
@[simp] theorem State.answerPending_pending (s : State) (w : Awaited) : (s.answerPending w).pending = s.pending := rfl

/-! ## Entries after an update -/

@[simp] theorem State.setNode_txn (s : State) (n : NodeIx) (x : Node) (k : TxnIx) : (s.setNode n x).txn k = s.txn k := rfl
@[simp] theorem State.modNode_txn (s : State) (n : NodeIx) (f : Node → Node) (k : TxnIx) : (s.modNode n f).txn k = s.txn k := rfl
@[simp] theorem State.mapNodes_txn (s : State) (f : Node → Node) (k : TxnIx) : (s.mapNodes f).txn k = s.txn k := rfl
@[simp] theorem State.setTxn_node (s : State) (e : TxnIx) (x : Txn) (m : NodeIx) : (s.setTxn e x).node m = s.node m := rfl
@[simp] theorem State.modTxn_node (s : State) (e : TxnIx) (f : Txn → Txn) (m : NodeIx) : (s.modTxn e f).node m = s.node m := rfl
@[simp] theorem State.modEngine_node (s : State) (f : Engine → Engine) (m : NodeIx) : (s.modEngine f).node m = s.node m := rfl
@[simp] theorem State.modEngine_txn (s : State) (f : Engine → Engine) (k : TxnIx) : (s.modEngine f).txn k = s.txn k := rfl
@[simp] theorem State.modLink_node (s : State) (f : Link → Link) (m : NodeIx) : (s.modLink f).node m = s.node m := rfl
@[simp] theorem State.modLink_txn (s : State) (f : Link → Link) (k : TxnIx) : (s.modLink f).txn k = s.txn k := rfl
@[simp] theorem State.modEvq_node (s : State) (f : Evq → Evq) (m : NodeIx) : (s.modEvq f).node m = s.node m := rfl
@[simp] theorem State.modEvq_txn (s : State) (f : Evq → Evq) (k : TxnIx) : (s.modEvq f).txn k = s.txn k := rfl
@[simp] theorem State.modAttn_node (s : State) (f : Attn → Attn) (m : NodeIx) : (s.modAttn f).node m = s.node m := rfl
@[simp] theorem State.modAttn_txn (s : State) (f : Attn → Attn) (k : TxnIx) : (s.modAttn f).txn k = s.txn k := rfl
@[simp] theorem State.modPort_node (s : State) (f : Port → Port) (m : NodeIx) : (s.modPort f).node m = s.node m := rfl
@[simp] theorem State.modPort_txn (s : State) (f : Port → Port) (k : TxnIx) : (s.modPort f).txn k = s.txn k := rfl
@[simp] theorem State.raise_node (s : State) (e : HostError) (a : Addr) (m : NodeIx) : (s.raise e a).node m = s.node m := rfl
@[simp] theorem State.raise_txn (s : State) (e : HostError) (a : Addr) (k : TxnIx) : (s.raise e a).txn k = s.txn k := rfl
@[simp] theorem State.raiseHere_node (s : State) (e : HostError) (m : NodeIx) : (s.raiseHere e).node m = s.node m := rfl
@[simp] theorem State.raiseHere_txn (s : State) (e : HostError) (k : TxnIx) : (s.raiseHere e).txn k = s.txn k := rfl
@[simp] theorem State.answer_node (s : State) (c : CmdStatus) (m : NodeIx) : (s.answer c).node m = s.node m := rfl
@[simp] theorem State.answer_txn (s : State) (c : CmdStatus) (k : TxnIx) : (s.answer c).txn k = s.txn k := rfl
@[simp] theorem State.answerPending_node (s : State) (w : Awaited) (m : NodeIx) : (s.answerPending w).node m = s.node m := rfl
@[simp] theorem State.answerPending_txn (s : State) (w : Awaited) (k : TxnIx) : (s.answerPending w).txn k = s.txn k := rfl

theorem State.setNode_node (s : State) (n m : NodeIx) (x : Node) :
    (s.setNode n x).node m = if m = n then x else s.node m := by
  simp only [State.node, State.setNode, Fin.getElem_fin, Vector.getElem_set]
  by_cases h : m = n
  · simp [h]
  · have e : n.val ≠ m.val := fun e => h (Fin.ext e.symm)
    simp [h, e]

theorem State.modNode_node (s : State) (n m : NodeIx) (f : Node → Node) :
    (s.modNode n f).node m = if m = n then f (s.node n) else s.node m := s.setNode_node n m _

@[simp] theorem State.setNode_node_same (s : State) (n : NodeIx) (x : Node) : (s.setNode n x).node n = x := by
  simp [State.setNode_node]

@[simp] theorem State.modNode_node_same (s : State) (n : NodeIx) (f : Node → Node) :
    (s.modNode n f).node n = f (s.node n) := by simp [State.modNode_node]

theorem State.setTxn_txn (s : State) (e k : TxnIx) (x : Txn) :
    (s.setTxn e x).txn k = if k = e then x else s.txn k := by
  simp only [State.txn, State.setTxn, Fin.getElem_fin, Vector.getElem_set]
  by_cases h : k = e
  · simp [h]
  · have i : e.val ≠ k.val := fun i => h (Fin.ext i.symm)
    simp [h, i]

theorem State.modTxn_txn (s : State) (e k : TxnIx) (f : Txn → Txn) :
    (s.modTxn e f).txn k = if k = e then f (s.txn e) else s.txn k := s.setTxn_txn e k _

@[simp] theorem State.setTxn_txn_same (s : State) (e : TxnIx) (x : Txn) : (s.setTxn e x).txn e = x := by
  simp [State.setTxn_txn]

@[simp] theorem State.modTxn_txn_same (s : State) (e : TxnIx) (f : Txn → Txn) :
    (s.modTxn e f).txn e = f (s.txn e) := by simp [State.modTxn_txn]

/-! ## Tables built entry by entry -/

@[simp] theorem tabulate_getElem {α : Type} (n : Nat) (f : Fin n → α) (i : Nat) (h : i < n) :
    (tabulate n f)[i] = f ⟨i, h⟩ := by
  simp [tabulate, Vector.getElem_mk]

@[simp] theorem tabMap_getElem {α β : Type} {n : Nat} (f : α → β) (v : Vector α n) (i : Nat) (h : i < n) :
    (tabMap f v)[i] = f v[i] := by
  simp [tabMap, Vector.getElem_mk]

@[simp] theorem State.mapNodes_node (s : State) (f : Node → Node) (m : NodeIx) :
    (s.mapNodes f).node m = f (s.node m) := by
  simp [State.node, State.mapNodes]

/-- Two tables with equal entries are equal. -/
theorem table_ext {α : Type} {n : Nat} {u v : Vector α n} (h : ∀ i : Fin n, u[i] = v[i]) : u = v :=
  Vector.ext fun i hi => h ⟨i, hi⟩

/-- A node table with one entry put back as it was is the same table. -/
theorem State.setNode_self (s : State) (n : NodeIx) : s.setNode n (s.node n) = s := by
  have h : s.nodes.set n (s.node n) = s.nodes := by simp [State.node]
  simp [State.setNode, h]

end Sys2Proof.Machine
end

