-- ==== Sys2Proof/Laws/Evaluation.lean ====
section
/-! SUPPORT. The reach of a supervision evaluation and of a node command: one node entry and the event queue, nothing
else. One lemma for each operation. -/

namespace Sys2Proof.Machine

/-- Only node `n` and the event queue differ from `s` to `t`. -/
def State.OnlyNode (n : NodeIx) (s t : State) : Prop := t = { s.setNode n (t.node n) with evq := t.evq }

theorem State.OnlyNode.refl (n : NodeIx) (s : State) : State.OnlyNode n s s := by
  unfold State.OnlyNode
  rw [s.setNode_self n]

theorem State.OnlyNode.trans {n : NodeIx} {s t u : State} (h : State.OnlyNode n s t) (k : State.OnlyNode n t u) :
    State.OnlyNode n s u := by
  unfold State.OnlyNode at h k ⊢
  rw [h] at k
  simpa [State.setNode] using k

/-- An update of node `n` reaches no further. -/
theorem State.only_modNode (s : State) (n : NodeIx) (f : Node → Node) : State.OnlyNode n s (s.modNode n f) := by
  unfold State.OnlyNode
  rw [State.modNode_node_same]
  rfl

/-- Every field but the node table and the queue. -/
theorem State.OnlyNode.fields {n : NodeIx} {s t : State} (h : State.OnlyNode n s t) :
    t.power = s.power ∧ t.slots = s.slots ∧ t.engine = s.engine ∧ t.link = s.link ∧ t.txns = s.txns ∧
    t.order = s.order ∧ t.attn = s.attn ∧ t.err = s.err ∧ t.cmd = s.cmd ∧ t.port = s.port ∧ t.adrPins = s.adrPins ∧
    t.pending = s.pending := by
  unfold State.OnlyNode at h
  rw [h]
  exact ⟨rfl, rfl, rfl, rfl, rfl, rfl, rfl, rfl, rfl, rfl, rfl, rfl⟩

/-- Every other node. -/
theorem State.OnlyNode.node_other {n m : NodeIx} {s t : State} (h : State.OnlyNode n s t) (hm : m ≠ n) :
    t.node m = s.node m := by
  unfold State.OnlyNode at h
  have e : t.node m = (s.setNode n (t.node n)).node m := by
    conv_lhs => rw [h]
    rfl
  rw [e, State.setNode_node, if_neg hm]

/-- Every transaction entry. -/
theorem State.OnlyNode.txn {n : NodeIx} {s t : State} (h : State.OnlyNode n s t) (e : TxnIx) : t.txn e = s.txn e := by
  simp only [State.txn, h.fields.2.2.2.2.1]

theorem State.only_emit (s : State) (n : NodeIx) (k : EventKind) (m a b : Byte) :
    State.OnlyNode n s (s.emit k m a b) := by
  unfold State.OnlyNode State.emit
  split
  · simp only [State.modEvq_node]
    rw [s.setNode_self n]
    rfl
  · rw [s.setNode_self n]

/-- An event leaves every node. -/
@[simp] theorem State.emit_node (s : State) (k : EventKind) (m a b : Byte) (n : NodeIx) :
    (s.emit k m a b).node n = s.node n := by
  unfold State.emit
  split <;> rfl

theorem State.only_enterState (s : State) (n : NodeIx) (x : NodeState) : State.OnlyNode n s (s.enterState n x) := by
  unfold State.enterState
  dsimp only
  split
  · exact .refl n s
  · exact (s.only_modNode n _).trans (State.only_emit _ n _ _ _ _)

/-- The node after an entry to a state. -/
@[simp] theorem State.enterState_node (s : State) (n : NodeIx) (x : NodeState) :
    (s.enterState n x).node n = { s.node n with state := x } := by
  unfold State.enterState
  dsimp only
  split
  · rename_i h
    rw [← h]
  · simp

theorem State.only_recordOutcome (s : State) (n : NodeIx) (r : Completion) : State.OnlyNode n s (s.recordOutcome n r) :=
  s.only_modNode n _

theorem State.only_compareAlert (s : State) (n : NodeIx) (r : Completion) : State.OnlyNode n s (s.compareAlert n r) := by
  unfold State.compareAlert
  split
  · exact .refl n s
  · dsimp only
    split
    · exact .refl n s
    · exact (s.only_modNode n _).trans (State.only_emit _ n _ _ _ _)

theorem State.only_detectChange (s : State) (n : NodeIx) (old : Vector Byte 8) :
    State.OnlyNode n s (s.detectChange n old) := by
  unfold State.detectChange
  dsimp only
  split
  · exact s.only_modNode n _
  · split
    · exact .refl n s
    · exact State.only_emit _ n _ _ _ _

theorem State.only_detectMatch (s : State) (n : NodeIx) : State.OnlyNode n s (s.detectMatch n) := by
  unfold State.detectMatch
  dsimp only
  split
  · split
    · exact (s.only_modNode n _).trans (State.only_emit _ n _ _ _ _)
    · exact s.only_modNode n _
  · exact s.only_modNode n _

theorem State.only_storeInput (s : State) (n : NodeIx) (p : List Byte) : State.OnlyNode n s (s.storeInput n p) :=
  ((s.only_modNode n _).trans (State.only_detectChange _ n _)).trans (State.only_detectMatch _ n)

/-- The node after a store: the new image, the baseline flag spent and the match judged (R108, R118 to R124). -/
theorem State.storeInput_node (s : State) (n : NodeIx) (p : List Byte) :
    (s.storeInput n p).node n =
      { s.node n with
        input := imageOf p, baseline := false
        matchState := (s.node n).matchEnable && (s.node n).wordMatches (imageOf p) } := by
  have h1 : ∀ (t : State) (old : Vector Byte 8),
      (t.detectChange n old).node n = { t.node n with baseline := false } := by
    intro t old
    unfold State.detectChange
    dsimp only
    split
    · simp
    · rename_i hb
      have hb' : (t.node n).baseline = false := by simpa using hb
      split <;> simp [← hb']
  have h2 : ∀ t : State, (t.detectMatch n).node n =
      { t.node n with matchState := (t.node n).matchEnable && (t.node n).wordMatches (t.node n).input } := by
    intro t
    unfold State.detectMatch
    dsimp only
    split
    · rename_i he
      split <;> simp [he]
    · rename_i he
      simp [he]
  unfold State.storeInput
  dsimp only
  rw [h2, h1, State.modNode_node_same]
  rfl

theorem State.only_enterOffline (s : State) (n : NodeIx) : State.OnlyNode n s (s.enterOffline n) :=
  (s.only_modNode n _).trans (State.only_enterState _ n _)

/-- The node after its entry to OFFLINE (R47). -/
@[simp] theorem State.enterOffline_node (s : State) (n : NodeIx) :
    (s.enterOffline n).node n =
      { s.node n with reprobe := s.engine.reprobeInterval.toNat, matchState := false, state := .offline } := by
  unfold State.enterOffline
  simp

theorem State.only_cyclicFailed (s : State) (n : NodeIx) : State.OnlyNode n s (s.cyclicFailed n) := by
  unfold State.cyclicFailed
  dsimp only
  have h := s.only_modNode n fun x => { x with failCount := succUpTo 15 x.failCount }
  split
  · exact h.trans (State.only_enterOffline _ n)
  · split
    · exact h.trans (State.only_enterState _ n _)
    · exact h

theorem State.only_cyclicOk (s : State) (n : NodeIx) : State.OnlyNode n s (s.cyclicOk n) := by
  unfold State.cyclicOk
  dsimp only
  have h := s.only_modNode n fun x => { x with inputAge := 0, failCount := 0 }
  split
  · exact h.trans (State.only_enterState _ n _)
  · exact h

theorem State.only_probeFailed (s : State) (n : NodeIx) : State.OnlyNode n s (s.probeFailed n) := by
  unfold State.probeFailed
  dsimp only
  have h := s.only_modNode n fun x => { x with failCount := succUpTo 15 x.failCount }
  split
  · exact h.trans (State.only_modNode _ n _)
  · split
    · exact h.trans (State.only_enterOffline _ n)
    · exact h

theorem State.only_report (s : State) (n : NodeIx) (p : List Byte) : State.OnlyNode n s (s.report n p) :=
  s.only_modNode n _

theorem State.only_probeOk (s : State) (n : NodeIx) (p : List Byte) : State.OnlyNode n s (s.probeOk n p) := by
  unfold State.probeOk
  dsimp only
  have h := (s.only_report n p).trans (State.only_modNode _ n fun x => { x with failCount := 0, reprobe := 0 })
  split
  · exact (h.trans (State.only_modNode _ n _)).trans (State.only_enterState _ n _)
  · exact (h.trans (State.only_modNode _ n _)).trans (State.only_enterState _ n _)

theorem State.only_evaluateCyclic (s : State) (n : NodeIx) (r : Completion) :
    State.OnlyNode n s (s.evaluateCyclic n r) := by
  unfold State.evaluateCyclic
  split
  · exact (s.only_storeInput n _).trans (State.only_cyclicOk _ n)
  · split
    · exact s.only_cyclicFailed n
    · exact .refl n s

theorem State.only_evaluateProbe (s : State) (n : NodeIx) (r : Completion) :
    State.OnlyNode n s (s.evaluateProbe n r) := by
  unfold State.evaluateProbe
  split
  · exact s.only_probeOk n _
  · split
    · exact s.only_probeFailed n
    · exact .refl n s

/-- A supervision evaluation reaches its node and the queue. -/
theorem State.only_supervise (s : State) (r : Completion) : State.OnlyNode r.node s (s.supervise r) := by
  unfold State.supervise
  dsimp only
  have h := (s.only_recordOutcome r.node r).trans (State.only_compareAlert _ r.node r)
  split
  · exact h.trans (State.only_evaluateCyclic _ r.node r)
  · exact h.trans (State.only_evaluateProbe _ r.node r)

theorem State.only_superviseIdentTxn (s : State) (r : Completion) :
    State.OnlyNode r.node s (s.superviseIdentTxn r) := by
  unfold State.superviseIdentTxn
  dsimp only
  split
  · exact s.only_report r.node _
  · exact ((s.only_report r.node _).trans (State.only_modNode _ r.node _)).trans (State.only_enterState _ r.node _)

theorem State.only_disableNode (s : State) (n : NodeIx) : State.OnlyNode n s (s.disableNode n) :=
  (s.only_modNode n _).trans (State.only_enterState _ n _)

theorem State.only_reprobeNode (s : State) (n : NodeIx) : State.OnlyNode n s (s.reprobeNode n) :=
  (s.only_modNode n _).trans (State.only_enterState _ n _)

theorem State.only_enableNode (s : State) (n : NodeIx) : State.OnlyNode n s (s.enableNode n) :=
  (s.only_modNode n _).trans (State.only_enterState _ n _)

/-! ## The node after each evaluation -/

/-- The node after a failed CYCLIC work item (R45, R47). -/
theorem State.cyclicFailed_node (s : State) (n : NodeIx) :
    (s.cyclicFailed n).node n =
      let x := s.node n
      let c := succUpTo 15 x.failCount
      if s.engine.offlineThreshold.toNat ≤ c ∧ x.state ≠ .offline then
        { x with
          failCount := c, reprobe := s.engine.reprobeInterval.toNat, matchState := false, state := .offline }
      else if x.state = .online then { x with failCount := c, state := .suspect }
      else { x with failCount := c } := by
  unfold State.cyclicFailed
  simp only [State.modNode_node_same, State.modNode_engine]
  split
  · simp
  · split <;> simp

/-- The node after an OK CYCLIC work item, its store done (R44). -/
theorem State.cyclicOk_node (s : State) (n : NodeIx) :
    (s.cyclicOk n).node n =
      let x := s.node n
      { x with inputAge := 0, failCount := 0, state := if x.state = .suspect then .online else x.state } := by
  unfold State.cyclicOk
  simp only [State.modNode_node_same]
  split
  · simp
  · simp

/-- The node after a failed probe (R51). -/
theorem State.probeFailed_node (s : State) (n : NodeIx) :
    (s.probeFailed n).node n =
      let x := s.node n
      let c := succUpTo 15 x.failCount
      if x.state = .offline then { x with failCount := c, reprobe := s.engine.reprobeInterval.toNat }
      else if s.engine.offlineThreshold.toNat ≤ c then
        { x with
          failCount := c, reprobe := s.engine.reprobeInterval.toNat, matchState := false, state := .offline }
      else { x with failCount := c } := by
  unfold State.probeFailed
  simp only [State.modNode_node_same, State.modNode_engine]
  split
  · simp
  · split <;> simp

/-- The node after an OK probe (R49, R50). -/
theorem State.probeOk_node (s : State) (n : NodeIx) (p : List Byte) :
    (s.probeOk n p).node n =
      let x := s.node n
      let y := { x with
        reportedType := p.getD 0 0, reportedOut := saturate4 (p.getD 1 0), reportedIn := saturate4 (p.getD 2 0)
        failCount := 0, reprobe := 0 }
      if x.agrees p then { y with baseline := true, state := .online }
      else { y with matchState := false, inputAge := 255, state := .mismatch } := by
  unfold State.probeOk State.report
  dsimp only
  split <;> simp

/-- The node after a delivered status byte has been recorded and its ALERT bit compared (R42, R43). -/
theorem State.recorded_node (s : State) (n : NodeIx) (r : Completion) :
    ((s.recordOutcome n r).compareAlert n r).node n =
      let x := s.node n
      { x with
        lastOutcome := some r.outcome, lastStatus := r.status.getD x.lastStatus
        alert := (r.status.map fun st => st.getLsbD 4).getD x.alert } := by
  unfold State.recordOutcome State.compareAlert
  cases r.status with
  | none => simp
  | some st =>
    dsimp only
    split
    · rename_i h
      simp only [State.modNode_node_same, Option.getD_some, Option.map_some] at h ⊢
      simpa using h.symm
    · simp

/-- The node after NODE_DISABLE has taken effect (R31). -/
@[simp] theorem State.disableNode_node (s : State) (n : NodeIx) :
    (s.disableNode n).node n =
      { s.node n with due := false, matchState := false, inputAge := 255, reprobe := 0, state := .disabled } := by
  unfold State.disableNode
  simp

/-- The node after NODE_REPROBE has taken effect (R33). -/
@[simp] theorem State.reprobeNode_node (s : State) (n : NodeIx) :
    (s.reprobeNode n).node n =
      { s.node n with failCount := 0, matchState := false, reprobe := 0, state := .probing } := by
  unfold State.reprobeNode
  simp

end Sys2Proof.Machine
end

