-- ==== Sys2Proof/Laws/Frames.lean ====
section
/-! SUPPORT. The frame of the scan link: handing over work, completing it and evaluating it leave everything that belongs
to the host as it was. One lemma for each operation, in the order the operations are built. -/

namespace Sys2Proof.Machine

/-! ## The relation -/

theorem State.HostSideKept.refl (s : State) : s.HostSideKept s :=
  ⟨rfl, rfl, rfl, rfl, rfl, rfl, rfl, rfl, rfl, rfl, rfl, fun _ => rfl, fun _ => rfl⟩

theorem State.HostSideKept.trans {s t u : State} (h : s.HostSideKept t) (k : t.HostSideKept u) : s.HostSideKept u :=
  ⟨k.power.trans h.power, k.slots.trans h.slots, k.attn.trans h.attn, k.err.trans h.err, k.port.trans h.port,
   k.adrPins.trans h.adrPins, k.pending.trans h.pending, k.arg.trans h.arg, k.profiles.trans h.profiles,
   k.engine.trans h.engine, k.evq.trans h.evq, fun n => (k.node n).trans (h.node n), fun e => (k.txn e).trans (h.txn e)⟩

/-! ## Single updates -/

theorem State.kept_modNode (s : State) (n : NodeIx) (f : Node → Node) (h : ∀ x, (f x).hostSide = x.hostSide) :
    s.HostSideKept (s.modNode n f) := by
  refine ⟨rfl, rfl, rfl, rfl, rfl, rfl, rfl, rfl, rfl, rfl, rfl, fun m => ?_, fun _ => rfl⟩
  rw [State.modNode_node]
  split
  · rename_i e
    rw [h, e]
  · rfl

theorem State.kept_mapNodes (s : State) (f : Node → Node) (h : ∀ x, (f x).hostSide = x.hostSide) :
    s.HostSideKept (s.mapNodes f) :=
  ⟨rfl, rfl, rfl, rfl, rfl, rfl, rfl, rfl, rfl, rfl, rfl, fun m => by rw [State.mapNodes_node, h], fun _ => rfl⟩

theorem State.kept_modTxn (s : State) (e : TxnIx) (f : Txn → Txn) (h : ∀ x, (f x).request = x.request) :
    s.HostSideKept (s.modTxn e f) := by
  refine ⟨rfl, rfl, rfl, rfl, rfl, rfl, rfl, rfl, rfl, rfl, rfl, fun _ => rfl, fun k => ?_⟩
  rw [State.modTxn_txn]
  split
  · rename_i i
    rw [h, i]
  · rfl

theorem State.kept_modEngine (s : State) (f : Engine → Engine) (h : (f s.engine).registers = s.engine.registers) :
    s.HostSideKept (s.modEngine f) :=
  ⟨rfl, rfl, rfl, rfl, rfl, rfl, rfl, rfl, rfl, h, rfl, fun _ => rfl, fun _ => rfl⟩

theorem State.kept_modLink (s : State) (f : Link → Link) (h : (f s.link).profiles = s.link.profiles) :
    s.HostSideKept (s.modLink f) :=
  ⟨rfl, rfl, rfl, rfl, rfl, rfl, rfl, rfl, h, rfl, rfl, fun _ => rfl, fun _ => rfl⟩

theorem State.kept_modEvq (s : State) (f : Evq → Evq) (h : (f s.evq).registers = s.evq.registers) :
    s.HostSideKept (s.modEvq f) :=
  ⟨rfl, rfl, rfl, rfl, rfl, rfl, rfl, rfl, rfl, rfl, h, fun _ => rfl, fun _ => rfl⟩

theorem State.kept_order (s : State) (l : List TxnIx) : s.HostSideKept { s with order := l } :=
  ⟨rfl, rfl, rfl, rfl, rfl, rfl, rfl, rfl, rfl, rfl, rfl, fun _ => rfl, fun _ => rfl⟩

theorem State.kept_completePending (s : State) (w : Awaited) : s.HostSideKept (s.completePending w) := by
  unfold State.completePending
  split
  · exact ⟨rfl, rfl, rfl, rfl, rfl, rfl, rfl, rfl, rfl, rfl, rfl, fun _ => rfl, fun _ => rfl⟩
  · exact .refl s

/-! ## The event queue -/

theorem Evq.append_registers (q : Evq) (ev : Record) : (q.append ev).registers = q.registers := by
  unfold Evq.append
  split <;> rfl

theorem Evq.discardOldest_registers (q : Evq) : q.discardOldest.registers = q.registers := by
  unfold Evq.discardOldest
  split <;> rfl

/-- No disposal of an event touches the queue's registers or the open item. -/
theorem Evq.dispose_registers (q : Evq) (ev : Record) : (q.dispose ev).registers = q.registers := by
  unfold Evq.dispose
  split
  · rfl
  · split
    · rfl
    · split
      · exact q.append_registers ev
      · split
        · rfl
        · rw [Evq.append_registers, Evq.discardOldest_registers]
          rfl

theorem State.kept_emit (s : State) (k : EventKind) (n a b : Byte) : s.HostSideKept (s.emit k n a b) := by
  unfold State.emit
  split
  · exact s.kept_modEvq _ (Evq.dispose_registers _ _)
  · exact .refl s

/-! ## Supervision and detection -/

theorem State.kept_enterState (s : State) (n : NodeIx) (x : NodeState) : s.HostSideKept (s.enterState n x) := by
  unfold State.enterState
  dsimp only
  split
  · exact .refl s
  · exact (s.kept_modNode n _ (by intro; rfl)).trans (State.kept_emit _ _ _ _ _)

theorem State.kept_recordOutcome (s : State) (n : NodeIx) (r : Completion) : s.HostSideKept (s.recordOutcome n r) :=
  s.kept_modNode n _ (by intro; rfl)

theorem State.kept_compareAlert (s : State) (n : NodeIx) (r : Completion) : s.HostSideKept (s.compareAlert n r) := by
  unfold State.compareAlert
  split
  · exact .refl s
  · dsimp only
    split
    · exact .refl s
    · exact (s.kept_modNode n _ (by intro; rfl)).trans (State.kept_emit _ _ _ _ _)

theorem State.kept_detectChange (s : State) (n : NodeIx) (old : Vector Byte 8) : s.HostSideKept (s.detectChange n old) := by
  unfold State.detectChange
  dsimp only
  split
  · exact s.kept_modNode n _ (by intro; rfl)
  · split
    · exact .refl s
    · exact State.kept_emit _ _ _ _ _

theorem State.kept_detectMatch (s : State) (n : NodeIx) : s.HostSideKept (s.detectMatch n) := by
  unfold State.detectMatch
  dsimp only
  split
  · split
    · exact (s.kept_modNode n _ (by intro; rfl)).trans (State.kept_emit _ _ _ _ _)
    · exact s.kept_modNode n _ (by intro; rfl)
  · exact s.kept_modNode n _ (by intro; rfl)

theorem State.kept_storeInput (s : State) (n : NodeIx) (p : List Byte) : s.HostSideKept (s.storeInput n p) :=
  ((s.kept_modNode n _ (by intro; rfl)).trans (State.kept_detectChange _ _ _)).trans (State.kept_detectMatch _ _)

theorem State.kept_enterOffline (s : State) (n : NodeIx) : s.HostSideKept (s.enterOffline n) :=
  (s.kept_modNode n _ (by intro; rfl)).trans (State.kept_enterState _ _ _)

theorem State.kept_cyclicFailed (s : State) (n : NodeIx) : s.HostSideKept (s.cyclicFailed n) := by
  unfold State.cyclicFailed
  dsimp only
  have h := s.kept_modNode n (fun x => { x with failCount := succUpTo 15 x.failCount }) fun _ => rfl
  split
  · exact h.trans (State.kept_enterOffline _ _)
  · split
    · exact h.trans (State.kept_enterState _ _ _)
    · exact h

theorem State.kept_cyclicOk (s : State) (n : NodeIx) : s.HostSideKept (s.cyclicOk n) := by
  unfold State.cyclicOk
  dsimp only
  have h := s.kept_modNode n (fun x => { x with inputAge := 0, failCount := 0 }) fun _ => rfl
  split
  · exact h.trans (State.kept_enterState _ _ _)
  · exact h

theorem State.kept_probeFailed (s : State) (n : NodeIx) : s.HostSideKept (s.probeFailed n) := by
  unfold State.probeFailed
  dsimp only
  have h := s.kept_modNode n (fun x => { x with failCount := succUpTo 15 x.failCount }) fun _ => rfl
  split
  · refine h.trans (State.kept_modNode _ n _ ?_)
    exact fun _ => rfl
  · split
    · exact h.trans (State.kept_enterOffline _ _)
    · exact h

theorem State.kept_report (s : State) (n : NodeIx) (p : List Byte) : s.HostSideKept (s.report n p) :=
  s.kept_modNode n _ (by intro; rfl)

theorem State.kept_probeOk (s : State) (n : NodeIx) (p : List Byte) : s.HostSideKept (s.probeOk n p) := by
  unfold State.probeOk
  dsimp only
  have h := (s.kept_report n p).trans
    (State.kept_modNode _ n (fun x => { x with failCount := 0, reprobe := 0 }) fun _ => rfl)
  split
  · refine (h.trans (State.kept_modNode _ n _ ?_)).trans (State.kept_enterState _ _ _)
    exact fun _ => rfl
  · refine (h.trans (State.kept_modNode _ n _ ?_)).trans (State.kept_enterState _ _ _)
    exact fun _ => rfl

theorem State.kept_evaluateCyclic (s : State) (n : NodeIx) (r : Completion) : s.HostSideKept (s.evaluateCyclic n r) := by
  unfold State.evaluateCyclic
  split
  · exact (s.kept_storeInput n _).trans (State.kept_cyclicOk _ _)
  · split
    · exact s.kept_cyclicFailed n
    · exact .refl s

theorem State.kept_evaluateProbe (s : State) (n : NodeIx) (r : Completion) : s.HostSideKept (s.evaluateProbe n r) := by
  unfold State.evaluateProbe
  split
  · exact s.kept_probeOk n _
  · split
    · exact s.kept_probeFailed n
    · exact .refl s

theorem State.kept_supervise (s : State) (r : Completion) : s.HostSideKept (s.supervise r) := by
  unfold State.supervise
  dsimp only
  have h := (s.kept_recordOutcome r.node r).trans (State.kept_compareAlert _ r.node r)
  split
  · exact h.trans (State.kept_evaluateCyclic _ _ _)
  · exact h.trans (State.kept_evaluateProbe _ _ _)

theorem State.kept_superviseIdentTxn (s : State) (r : Completion) : s.HostSideKept (s.superviseIdentTxn r) := by
  unfold State.superviseIdentTxn
  dsimp only
  split
  · exact s.kept_report r.node _
  · refine ((s.kept_report r.node _).trans (State.kept_modNode _ r.node _ ?_)).trans (State.kept_enterState _ _ _)
    exact fun _ => rfl

theorem State.kept_disableNode (s : State) (n : NodeIx) : s.HostSideKept (s.disableNode n) :=
  (s.kept_modNode n _ (by intro; rfl)).trans (State.kept_enterState _ _ _)

theorem State.kept_reprobeNode (s : State) (n : NodeIx) : s.HostSideKept (s.reprobeNode n) :=
  (s.kept_modNode n _ (by intro; rfl)).trans (State.kept_enterState _ _ _)

theorem State.kept_enableNode (s : State) (n : NodeIx) : s.HostSideKept (s.enableNode n) :=
  (s.kept_modNode n _ (by intro; rfl)).trans (State.kept_enterState _ _ _)

/-! ## Transactions -/

theorem State.kept_emitTxnEnd (s : State) (e : TxnIx) : s.HostSideKept (s.emitTxnEnd e) := State.kept_emit _ _ _ _ _

theorem State.kept_failUnavailable (s : State) (e : TxnIx) : s.HostSideKept (s.failUnavailable e) :=
  (s.kept_modTxn e _ (by intro; rfl)).trans (State.kept_emitTxnEnd _ _)

theorem State.kept_cancelQueued (s : State) (e : TxnIx) : s.HostSideKept (s.cancelQueued e) :=
  ((s.kept_order _).trans (State.kept_modTxn _ e _ (by intro; rfl))).trans (State.kept_emitTxnEnd _ _)

theorem State.kept_endTxn (s : State) (e : TxnIx) (r : Completion) : s.HostSideKept (s.endTxn e r) := by
  unfold State.endTxn
  dsimp only
  have h : s.HostSideKept (if r.op = .ident ∧ r.outcome = .ok then s.superviseIdentTxn r else s) := by
    split
    · exact s.kept_superviseIdentTxn r
    · exact .refl s
  exact (h.trans (State.kept_modTxn _ e _ (by intro; rfl))).trans (State.kept_emitTxnEnd _ _)

/-! ## The scan engine -/

theorem State.kept_enterWaiting (s : State) : s.HostSideKept s.enterWaiting :=
  (s.kept_modEngine _ (by rfl)).trans (State.kept_mapNodes _ _ fun _ => rfl)

theorem State.kept_reportDropped (s : State) : s.HostSideKept s.reportDropped := by
  unfold State.reportDropped
  split
  · exact State.kept_emit _ _ _ _ _
  · exact .refl s

theorem Node.cycleDuties_hostSide (x : Node) : x.cycleDuties.hostSide = x.hostSide := by
  unfold Node.cycleDuties
  split <;> rfl

theorem State.kept_beginCycle (s : State) : s.HostSideKept s.beginCycle := by
  unfold State.beginCycle
  dsimp only
  refine ((State.kept_modEngine _ _ ?_).trans (State.kept_mapNodes _ _ Node.cycleDuties_hostSide)).trans
    (State.kept_modEngine _ _ ?_) <;> rfl

theorem State.kept_overrun (s : State) : s.HostSideKept s.overrun := s.kept_modEngine _ (by rfl)

theorem State.kept_endCycle (s : State) : s.HostSideKept s.endCycle := by
  unfold State.endCycle
  dsimp only
  refine ((((State.kept_modEngine _ _ ?_).trans (State.kept_emit _ _ _ _ _)).trans (State.kept_reportDropped _)).trans
    (State.kept_modEngine _ _ ?_)).trans (State.kept_enterWaiting _) <;> rfl

theorem State.kept_enterStopped (s : State) : s.HostSideKept s.enterStopped := by
  unfold State.enterStopped
  refine ((s.kept_reportDropped).trans (State.kept_emit _ _ _ _ _)).trans (State.kept_modEngine _ _ ?_)
  rfl

/-! ## Hand-over and choice -/

theorem State.kept_clearDueFor (s : State) (op : LinkOp) (n : NodeIx) : s.HostSideKept (s.clearDueFor op n) := by
  unfold State.clearDueFor
  split
  · exact s.kept_modNode n _ (by intro; rfl)
  · exact .refl s

theorem State.kept_handOver (s : State) (w : WorkItem) : s.HostSideKept (s.handOver w) := by
  unfold State.handOver
  dsimp only
  refine (s.kept_clearDueFor w.op w.node).trans (State.kept_modLink _ _ ?_)
  rfl

theorem State.kept_startWork (s : State) (c : WorkClass) (op : LinkOp) (n : NodeIx) :
    s.HostSideKept (s.startWork c op n) := by
  unfold State.startWork
  refine (s.kept_handOver _).trans (State.kept_modLink _ _ ?_)
  rfl

theorem State.kept_handOverRetry (s : State) : s.HostSideKept s.handOverRetry := by
  unfold State.handOverRetry
  split
  · split
    · split
      · exact .refl s
      · exact s.kept_handOver _
    · exact .refl s
  · exact .refl s

theorem State.kept_tryUrgent {s t : State} (h : s.tryUrgent = some t) : s.HostSideKept t := by
  unfold State.tryUrgent at h
  obtain ⟨n, _, rfl⟩ := Option.map_eq_some_iff.1 h
  exact s.kept_startWork _ _ _

theorem State.kept_tryUrgentFirst {s t : State} (h : s.tryUrgentFirst = some t) : s.HostSideKept t := by
  unfold State.tryUrgentFirst at h
  split at h
  · exact absurd h (by simp)
  · exact State.kept_tryUrgent h

theorem State.kept_tryGapProbe {s t : State} (h : s.tryGapProbe = some t) : s.HostSideKept t := by
  unfold State.tryGapProbe at h
  obtain ⟨n, _, rfl⟩ := Option.map_eq_some_iff.1 h
  exact (s.kept_startWork _ _ _).trans (State.kept_modNode _ n _ (by intro; rfl))

theorem State.kept_trySlot {s t : State} (h : s.trySlot = some t) : s.HostSideKept t := by
  unfold State.trySlot at h
  obtain ⟨k, _, rfl⟩ := Option.map_eq_some_iff.1 h
  exact (s.kept_modEngine _ (by rfl)).trans (State.kept_startWork _ _ _ _)

/-- A pick that goes to the link leaves the host's side. -/
theorem State.kept_tryTxn_handed {s t : State} (h : s.tryTxn = .handed t) : s.HostSideKept t := by
  unfold State.tryTxn at h
  cases ho : s.order with
  | nil => simp [ho] at h
  | cons e rest =>
    simp only [ho] at h
    split at h
    · cases h
      refine ((s.kept_order rest).trans (State.kept_modTxn _ e _ ?_)).trans (State.kept_startWork _ _ _ _)
      exact fun _ => rfl
    · cases h

/-- A pick that ends NODE_UNAVAILABLE leaves the host's side. -/
theorem State.kept_tryTxn_unavailable {s t : State} (h : s.tryTxn = .unavailable t) : s.HostSideKept t := by
  unfold State.tryTxn at h
  cases ho : s.order with
  | nil => simp [ho] at h
  | cons e rest =>
    simp only [ho] at h
    split at h
    · cases h
    · cases h
      exact (s.kept_order rest).trans (State.kept_failUnavailable _ _)

theorem State.kept_chooseGap (fuel : Nat) (s : State) : s.HostSideKept (State.chooseGap fuel s) := by
  induction fuel generalizing s with
  | zero => exact .refl s
  | succ k ih =>
    unfold State.chooseGap
    split
    · rename_i h
      exact State.kept_tryUrgentFirst h
    · split
      · rename_i h
        split at h
        · exact State.kept_tryGapProbe h
        · exact absurd h (by simp)
      · split
        · rename_i h
          exact State.kept_tryTxn_handed h
        · rename_i h
          exact (State.kept_tryTxn_unavailable h).trans (ih _)
        · cases h : s.tryUrgent with
          | none => exact .refl s
          | some t => exact State.kept_tryUrgent h

theorem State.kept_chooseCycling (fuel : Nat) (s : State) : s.HostSideKept (State.chooseCycling fuel s) := by
  induction fuel generalizing s with
  | zero => exact .refl s
  | succ k ih =>
    unfold State.chooseCycling
    split
    · rename_i h
      exact State.kept_tryUrgentFirst h
    · split
      · rename_i h
        split at h
        · exact State.kept_tryTxn_handed h
        · exact absurd h (by simp)
      · rename_i h
        split at h
        · exact (State.kept_tryTxn_unavailable h).trans (ih _)
        · exact absurd h (by simp)
      · cases h : s.trySlot with
        | none => exact s.kept_endCycle.trans (State.kept_chooseGap _ _)
        | some t => exact State.kept_trySlot h

/-- The choice at a boundary leaves the host's side. -/
theorem State.kept_choose (s : State) : s.HostSideKept s.choose := by
  unfold State.choose
  split
  · exact State.kept_chooseCycling _ s
  · exact State.kept_chooseGap _ s
  · exact State.kept_chooseGap _ s
  · exact .refl s

theorem State.kept_idleBoundary (s : State) : s.HostSideKept s.idleBoundary := by
  unfold State.idleBoundary
  split
  · exact s.kept_choose
  · exact .refl s

theorem State.kept_cycleStart (s : State) : s.HostSideKept s.cycleStart := by
  unfold State.cycleStart
  split
  · exact s.kept_beginCycle.trans (State.kept_idleBoundary _)
  · exact s.kept_overrun
  · exact s.kept_overrun
  · exact .refl s

/-! ## Completion -/

theorem State.kept_completeNodeCmd (s : State) (w : WorkItem) : s.HostSideKept (s.completeNodeCmd w) := by
  unfold State.completeNodeCmd
  split
  · exact .refl s
  · exact (s.kept_disableNode _).trans (State.kept_completePending _ _)
  · exact (s.kept_reprobeNode _).trans (State.kept_completePending _ _)

theorem State.kept_ownerEvaluates (s : State) (c : WorkClass) (r : Completion) : s.HostSideKept (s.ownerEvaluates c r) := by
  unfold State.ownerEvaluates
  split
  · exact s.kept_endTxn _ _
  · exact (s.kept_supervise r).trans (State.kept_modEngine _ _ (by rfl))
  · exact s.kept_supervise r
  · exact s.kept_supervise r

theorem State.kept_stopIfDraining (s : State) : s.HostSideKept s.stopIfDraining := by
  unfold State.stopIfDraining
  split
  · exact s.kept_enterStopped.trans (State.kept_completePending _ _)
  · exact .refl s

theorem State.kept_finishWork (s : State) (w : WorkItem) (r : Completion) : s.HostSideKept (s.finishWork w r) :=
  (((s.kept_modLink _ (by rfl)).trans (State.kept_ownerEvaluates _ _ _)).trans (State.kept_completeNodeCmd _ _)).trans
    (State.kept_stopIfDraining _)

theorem State.kept_updateToggle (s : State) (r : Completion) : s.HostSideKept (s.updateToggle r) := by
  unfold State.updateToggle
  split
  · exact s.kept_modNode _ _ (by intro; rfl)
  · exact .refl s

theorem State.kept_countAttempt (s : State) (c : WorkClass) : s.HostSideKept (s.countAttempt c) := by
  unfold State.countAttempt
  split
  · exact s.kept_modTxn _ _ (by intro; rfl)
  · exact .refl s

theorem State.kept_completeAttempt (s : State) (w : WorkItem) (x : Exchange) (d : List Byte) (o : RetryOrder) :
    s.HostSideKept (s.completeAttempt w x d o) := by
  unfold State.completeAttempt
  dsimp only
  have h := ((s.kept_modLink (fun l => { l with rested := false }) rfl).trans
    (State.kept_updateToggle _ (x.complete w.attempt d))).trans (State.kept_countAttempt _ w.cls)
  split
  · split
    · refine (h.trans (State.kept_modLink _ _ ?_)).trans (State.kept_handOverRetry _)
      rfl
    · refine h.trans (State.kept_modLink _ _ ?_)
      rfl
  · exact h.trans ((State.kept_finishWork _ _ _).trans (State.kept_choose _))

/-- A completion leaves the host's side. -/
theorem State.kept_completion (s : State) (d : List Byte) (o : RetryOrder) : s.HostSideKept (s.completion d o) := by
  unfold State.completion
  split
  · split
    · split
      · exact s.kept_completeAttempt _ _ _ _
      · exact .refl s
    · exact .refl s
  · exact .refl s

theorem State.kept_suppress (s : State) : s.HostSideKept s.suppress := s.kept_modLink _ (by rfl)

theorem State.kept_withdrawRetry (s : State) : s.HostSideKept s.withdrawRetry := by
  unfold State.withdrawRetry
  split
  · split
    · exact (s.kept_finishWork _ _).trans (State.kept_choose _)
    · exact .refl s
  · exact .refl s

theorem State.kept_abortWork (s : State) : s.HostSideKept s.abortWork := s.kept_modLink _ (by rfl)

theorem State.kept_assertSelect (s : State) : s.HostSideKept s.assertSelect := by
  unfold State.assertSelect
  split
  · split
    · exact s.kept_modLink _ (by rfl)
    · exact .refl s
  · exact .refl s

end Sys2Proof.Machine
end

