-- ==== Sys2Proof/Laws/Link.lean ====
section
/-! SUPPORT. What the arbiter and the commands leave on the link: a hand-over puts an attempt in flight, so none of them
leaves a retry waiting where none waited. -/

namespace Sys2Proof.Machine

/-- No retry waits for its hand-over. -/
abbrev State.calm (s : State) : Prop := s.link.retryWaits = false

theorem State.handOverRetry_calm {s : State} (h : s.calm) : s.handOverRetry = s := by
  unfold State.calm Link.retryWaits at h
  unfold State.handOverRetry
  split
  · next w hw =>
    split
    · next r hr => rw [hw] at h; dsimp only at h; rw [hr] at h; cases h
    · rfl
  · rfl

@[simp] theorem State.clearDueFor_link (s : State) (op : LinkOp) (n : NodeIx) : (s.clearDueFor op n).link = s.link := by
  unfold State.clearDueFor
  split <;> rfl

theorem State.calm_handOver (s : State) (w : WorkItem) : (s.handOver w).calm := by
  simp [State.calm, State.handOver, Link.retryWaits]

theorem State.calm_startWork (s : State) (c : WorkClass) (op : LinkOp) (n : NodeIx) : (s.startWork c op n).calm := by
  have := State.calm_handOver s (s.newWork c op n)
  simpa [State.calm, State.startWork, Link.retryWaits] using this

@[simp] theorem State.emit_link (s : State) (k : EventKind) (n a b : Byte) : (s.emit k n a b).link = s.link := by
  unfold State.emit
  split <;> rfl

@[simp] theorem State.emit_engine (s : State) (k : EventKind) (n a b : Byte) : (s.emit k n a b).engine = s.engine := by
  unfold State.emit
  split <;> rfl

@[simp] theorem State.emit_cmd (s : State) (k : EventKind) (n a b : Byte) : (s.emit k n a b).cmd = s.cmd := by
  unfold State.emit
  split <;> rfl

@[simp] theorem State.emit_order (s : State) (k : EventKind) (n a b : Byte) : (s.emit k n a b).order = s.order := by
  unfold State.emit
  split <;> rfl

@[simp] theorem State.emit_nodes (s : State) (k : EventKind) (n a b : Byte) : (s.emit k n a b).nodes = s.nodes := by
  unfold State.emit
  split <;> rfl

@[simp] theorem State.emit_txns (s : State) (k : EventKind) (n a b : Byte) : (s.emit k n a b).txns = s.txns := by
  unfold State.emit
  split <;> rfl

@[simp] theorem State.emit_port (s : State) (k : EventKind) (n a b : Byte) : (s.emit k n a b).port = s.port := by
  unfold State.emit
  split <;> rfl

@[simp] theorem State.reportDropped_link (s : State) : s.reportDropped.link = s.link := by
  unfold State.reportDropped
  split <;> simp

@[simp] theorem State.endCycle_link (s : State) : s.endCycle.link = s.link := by
  simp [State.endCycle, State.enterWaiting]

@[simp] theorem State.failUnavailable_link (s : State) (e : TxnIx) : (s.failUnavailable e).link = s.link := by
  simp [State.failUnavailable, State.emitTxnEnd]

theorem State.tryTxn_unavailable_link {s t : State} (h : s.tryTxn = .unavailable t) : t.link = s.link := by
  unfold State.tryTxn at h
  split at h
  · cases h
  · dsimp only at h
    split at h
    · cases h
    · cases h
      simp

theorem State.calm_tryTxn {s t : State} (h : s.tryTxn = .handed t) : t.calm := by
  unfold State.tryTxn at h
  split at h
  · cases h
  · dsimp only at h
    split at h
    · cases h
      exact State.calm_startWork _ _ _ _
    · cases h

theorem State.calm_tryUrgent {s t : State} (h : s.tryUrgent = some t) : t.calm := by
  unfold State.tryUrgent at h
  obtain ⟨n, _, rfl⟩ := Option.map_eq_some_iff.1 h
  exact State.calm_startWork _ _ _ _

theorem State.calm_tryUrgentFirst {s t : State} (h : s.tryUrgentFirst = some t) : t.calm := by
  unfold State.tryUrgentFirst at h
  split at h
  · cases h
  · exact State.calm_tryUrgent h

theorem State.calm_tryGapProbe {s t : State} (h : s.tryGapProbe = some t) : t.calm := by
  unfold State.tryGapProbe at h
  obtain ⟨n, _, rfl⟩ := Option.map_eq_some_iff.1 h
  exact State.calm_startWork s _ _ _

theorem State.calm_trySlot {s t : State} (h : s.trySlot = some t) : t.calm := by
  unfold State.trySlot at h
  obtain ⟨n, _, rfl⟩ := Option.map_eq_some_iff.1 h
  exact State.calm_startWork _ _ _ _

theorem State.calm_chooseGap (fuel : Nat) (s : State) (h : s.calm) : (State.chooseGap fuel s).calm := by
  induction fuel generalizing s with
  | zero => exact h
  | succ k ih =>
    unfold State.chooseGap
    split
    · next t ht => exact State.calm_tryUrgentFirst ht
    · split
      · next t ht =>
        split at ht
        · exact State.calm_tryGapProbe ht
        · cases ht
      · split
        · next t ht => exact State.calm_tryTxn ht
        · next t ht => exact ih t (by rw [State.calm, State.tryTxn_unavailable_link ht]; exact h)
        · cases hu : s.tryUrgent with
          | none => exact h
          | some t => exact State.calm_tryUrgent hu

theorem State.calm_chooseCycling (fuel : Nat) (s : State) (h : s.calm) : (State.chooseCycling fuel s).calm := by
  induction fuel generalizing s with
  | zero => exact h
  | succ k ih =>
    unfold State.chooseCycling
    split
    · next t ht => exact State.calm_tryUrgentFirst ht
    · split
      · next t ht =>
        split at ht
        · exact State.calm_tryTxn ht
        · cases ht
      · next t ht =>
        split at ht
        · exact ih t (by rw [State.calm, State.tryTxn_unavailable_link ht]; exact h)
        · cases ht
      · cases hu : s.trySlot with
        | none => exact State.calm_chooseGap _ _ (by rw [State.calm, State.endCycle_link]; exact h)
        | some t => exact State.calm_trySlot hu

theorem State.calm_choose {s : State} (h : s.calm) : s.choose.calm := by
  unfold State.choose
  split
  · exact State.calm_chooseCycling _ _ h
  · exact State.calm_chooseGap _ _ h
  · exact State.calm_chooseGap _ _ h
  · exact h

theorem State.calm_idleBoundary {s : State} (h : s.calm) : s.idleBoundary.calm := by
  unfold State.idleBoundary
  split
  · exact State.calm_choose h
  · exact h

@[simp] theorem State.beginCycle_link (s : State) : s.beginCycle.link = s.link := rfl

@[simp] theorem State.overrun_link (s : State) : s.overrun.link = s.link := rfl

theorem State.calm_cycleStart {s : State} (h : s.calm) : s.cycleStart.calm := by
  unfold State.cycleStart
  split
  · exact State.calm_idleBoundary (s := s.beginCycle) h
  · exact h
  · exact h
  · exact h

@[simp] theorem State.enterStopped_link (s : State) : s.enterStopped.link = s.link := by
  simp [State.enterStopped]

@[simp] theorem State.completePending_link (s : State) (w : Awaited) : (s.completePending w).link = s.link := by
  unfold State.completePending
  split <;> rfl

@[simp] theorem State.stopIfDraining_link (s : State) : s.stopIfDraining.link = s.link := by
  unfold State.stopIfDraining
  split <;> simp

theorem State.OnlyNode.link {n : NodeIx} {s t : State} (h : State.OnlyNode n s t) : t.link = s.link := by
  have := h.fields
  simp_all

@[simp] theorem State.completeNodeCmd_link (s : State) (w : WorkItem) : (s.completeNodeCmd w).link = s.link := by
  unfold State.completeNodeCmd
  split
  · rfl
  · rw [State.completePending_link, (State.only_disableNode s w.node).link]
  · rw [State.completePending_link, (State.only_reprobeNode s w.node).link]

@[simp] theorem State.endTxn_link (s : State) (e : TxnIx) (r : Completion) : (s.endTxn e r).link = s.link := by
  unfold State.endTxn
  dsimp only
  split
  · simp [State.emitTxnEnd, (State.only_superviseIdentTxn s r).link]
  · simp [State.emitTxnEnd]

@[simp] theorem State.ownerEvaluates_link (s : State) (c : WorkClass) (r : Completion) :
    (s.ownerEvaluates c r).link = s.link := by
  unfold State.ownerEvaluates
  split
  · simp
  · simp [(State.only_supervise s r).link]
  · exact (State.only_supervise s r).link
  · exact (State.only_supervise s r).link

/-- A work item that has ended leaves the link without one and otherwise as it was. -/
@[simp] theorem State.finishWork_link (s : State) (w : WorkItem) (r : Completion) :
    (s.finishWork w r).link = { s.link with work := none } := by
  simp [State.finishWork]

theorem State.withdrawRetry_calm {s : State} (h : s.calm) : s.withdrawRetry = s := by
  unfold State.calm Link.retryWaits at h
  unfold State.withdrawRetry
  split
  · next w hw =>
    split
    · next r hr => rw [hw] at h; dsimp only at h; rw [hr] at h; cases h
    · rfl
  · rfl

theorem State.calm_withdrawRetry (s : State) : s.withdrawRetry.calm := by
  unfold State.withdrawRetry
  split
  · next w hw =>
    split
    · exact State.calm_choose (by simp [State.calm, Link.retryWaits])
    · next x hx => simp [State.calm, Link.retryWaits, hw, hx]
  · next hw => simp [State.calm, Link.retryWaits, hw]

theorem State.calm_suppress {s : State} (h : s.calm) : s.suppress.calm := by
  unfold State.calm Link.retryWaits at *
  cases hw : s.link.work with
  | none => simp [State.suppress, hw]
  | some w => simpa [State.suppress, hw] using h

theorem State.calm_suppressTxn {s : State} (h : s.calm) (e : TxnIx) : (s.suppressTxn e).calm := by
  unfold State.suppressTxn
  split
  · split
    · split
      · exact State.calm_withdrawRetry _
      · exact h
    · exact h
  · exact h

/-! ## The command register and the register writes -/

theorem State.calm_cmdStartScan {s : State} (h : s.calm) : s.cmdStartScan.calm := by
  unfold State.cmdStartScan
  split
  · dsimp only
    split
    · exact State.calm_idleBoundary (by simpa [State.calm, State.enterWaiting] using h)
    · exact State.calm_idleBoundary (by simpa [State.calm, State.enterWaiting] using h)
  · exact h

theorem State.calm_cmdStopScan {s : State} (h : s.calm) : s.cmdStopScan.calm := by
  unfold State.cmdStopScan
  split
  · exact h
  · exact h
  · simpa [State.calm] using h
  · split
    · simpa [State.calm] using h
    · exact State.calm_withdrawRetry _

theorem State.calm_cmdTriggerCycle {s : State} (h : s.calm) : s.cmdTriggerCycle.calm := by
  unfold State.cmdTriggerCycle
  split
  · exact h
  · exact State.calm_cycleStart h

theorem State.calm_probeBoundary {s : State} (h : s.calm) (n : NodeIx) : (s.probeBoundary n).calm := by
  unfold State.probeBoundary
  split
  · exact State.calm_idleBoundary h
  · exact h

theorem State.calm_nodeEnable {s : State} (h : s.calm) (n : NodeIx) : (s.nodeEnable n).calm := by
  unfold State.nodeEnable
  split
  · exact h
  · split
    · exact State.calm_probeBoundary (by rw [State.calm, (State.only_enableNode _ n).link]; exact h) n
    · exact h

theorem State.calm_nodeDisable {s : State} (h : s.calm) (n : NodeIx) : (s.nodeDisable n).calm := by
  unfold State.nodeDisable
  split
  · exact h
  · split
    · exact State.calm_withdrawRetry _
    · rw [State.calm, (State.only_disableNode _ n).link]; exact h

theorem State.calm_nodeReprobe {s : State} (h : s.calm) (n : NodeIx) : (s.nodeReprobe n).calm := by
  unfold State.nodeReprobe
  split
  · exact h
  · split
    · split
      · exact h
      · exact State.calm_withdrawRetry _
    · exact State.calm_probeBoundary (by rw [State.calm, (State.only_reprobeNode _ n).link]; exact h) n

theorem State.calm_cmdNode {s : State} (h : s.calm) (f : State → NodeIx → State) (hf : ∀ n, (f s n).calm) :
    (s.cmdNode f).calm := by
  unfold State.cmdNode
  split
  · exact hf _
  · exact h

theorem State.calm_command {s : State} (h : s.calm) (b : Byte) : (s.command b).calm := by
  unfold State.command
  split
  · exact State.calm_cmdStartScan h
  split
  · exact State.calm_cmdStopScan h
  split
  · exact State.calm_cmdTriggerCycle h
  split
  · exact State.calm_cmdNode h _ (State.calm_nodeEnable h)
  split
  · exact State.calm_cmdNode h _ (State.calm_nodeDisable h)
  split
  · exact State.calm_cmdNode h _ (State.calm_nodeReprobe h)
  split
  · exact h
  split
  · rfl
  split
  · exact h
  · exact h

theorem State.calm_submitEntry {s : State} (h : s.calm) (e : TxnIx) : (s.submitEntry e).calm := by
  unfold State.submitEntry
  dsimp only
  split
  · exact h
  · split
    · exact State.calm_idleBoundary h
    · exact h

theorem State.calm_cancelEntry {s : State} (h : s.calm) (e : TxnIx) : (s.cancelEntry e).calm := by
  unfold State.cancelEntry
  split
  · exact h
  · exact h
  · simpa [State.calm, State.cancelQueued, State.emitTxnEnd] using h
  · exact State.calm_suppressTxn (by exact h) _
  · exact h
  · exact h
  · exact h

theorem State.calm_writeSlot {s : State} (h : s.calm) (k : SlotIx) (second : Bool) (b : Byte) :
    (s.writeSlot k second b).calm := by
  unfold State.writeSlot
  dsimp only
  generalize (if second then slotByte1Legal b else slotByte0Legal b) = ok
  cases ok
  · exact h
  · rw [if_pos rfl]
    repeat' split
    all_goals first | exact h | exact State.calm_idleBoundary h

theorem State.calm_writeReg {s : State} (h : s.calm) (r : Reg) (b : Byte) : (s.writeReg r b).calm := by
  unfold State.writeReg
  split <;> try exact h
  · exact State.calm_command h b
  · unfold State.writeSource; repeat' split <;> try exact h
  · unfold State.writeSyncEdge; repeat' split <;> try exact h
  · unfold State.writeLinkMode; repeat' split <;> try exact h
  · unfold State.writePeriodLow; dsimp only; repeat' split <;> try exact h
  · unfold State.writeChecked; repeat' split <;> try exact h
  · unfold State.writeChecked; repeat' split <;> try exact h
  · unfold State.writeChecked; repeat' split <;> try exact h
  · unfold State.writeChecked; repeat' split <;> try exact h
  · unfold State.writePolicy; repeat' split <;> try exact h
  · unfold State.writeChecked; repeat' split <;> try exact h
  · unfold State.writeChecked; repeat' split <;> try exact h
  · unfold State.withHandle
    split
    · exact State.calm_submitEntry h _
    · exact h
  · unfold State.withHandle
    split
    · exact State.calm_cancelEntry h _
    · exact h
  · unfold State.withHandle State.releaseEntry; repeat' split <;> try exact h
  · unfold State.writeProfile; repeat' split <;> try exact h
  · unfold State.writeNodeConfig; repeat' split <;> try exact h
  · exact State.calm_writeSlot h _ _ b
  · unfold State.writeTxn; repeat' split <;> try exact h

end Sys2Proof.Machine
end

