-- ==== Sys2Proof/Laws/Boundary.lean ====
section
/-! SUPPORT. Events produced one after the other and the steps of an evaluation as one update with its events, for the
statements that give a work item's whole outcome; and how long the bytes of an exchange stand on the lines. -/

namespace Sys2Proof.Machine

/-! ## Events -/

@[simp] theorem State.emits_nil (s : State) : s.emits [] = s := rfl

@[simp] theorem State.emits_cons (s : State) (e : Event) (es : List Event) :
    s.emits (e :: es) = (s.emit e.1 e.2.1 e.2.2.1 e.2.2.2).emits es := rfl

theorem State.emits_append (s : State) (es fs : List Event) : s.emits (es ++ fs) = (s.emits es).emits fs :=
  List.foldl_append

/-- An event changes the queue alone, by what the queue and the cycle number are. -/
theorem State.emit_eq (s : State) (k : EventKind) (n a b : Byte) :
    s.emit k n a b = { s with
      evq := if s.evq.passes k = true
        then s.evq.dispose { kind := k, node := n, stamp := s.engine.cycle, arg0 := a, arg1 := b } else s.evq } := by
  unfold State.emit
  split <;> rfl

/-- Events change the queue alone, by what the queue and the cycle number are. -/
theorem State.emits_eq (es : List Event) : ∀ s : State, s.emits es = { s with evq := (s.emits es).evq } := by
  induction es with
  | nil => intro s; rfl
  | cons e es ih =>
    intro s
    rw [State.emits_cons, ih, State.emit_eq]

/-- The queue after events depends on the queue before them and the cycle number alone. -/
theorem State.emits_evq_congr (es : List Event) : ∀ s t : State, s.evq = t.evq → s.engine.cycle = t.engine.cycle →
    (s.emits es).evq = (t.emits es).evq := by
  induction es with
  | nil => intro s t h _; exact h
  | cons e es ih =>
    intro s t h hc
    rw [State.emits_cons, State.emits_cons]
    refine ih _ _ ?_ (by rw [State.emit_engine, State.emit_engine, hc])
    rw [State.emit_eq, State.emit_eq t, h, hc]

@[simp] theorem State.emits_link (s : State) (es : List Event) : (s.emits es).link = s.link := by rw [State.emits_eq]
@[simp] theorem State.emits_engine (s : State) (es : List Event) : (s.emits es).engine = s.engine := by rw [State.emits_eq]
@[simp] theorem State.emits_cmd (s : State) (es : List Event) : (s.emits es).cmd = s.cmd := by rw [State.emits_eq]
@[simp] theorem State.emits_order (s : State) (es : List Event) : (s.emits es).order = s.order := by rw [State.emits_eq]
@[simp] theorem State.emits_nodes (s : State) (es : List Event) : (s.emits es).nodes = s.nodes := by rw [State.emits_eq]
@[simp] theorem State.emits_txns (s : State) (es : List Event) : (s.emits es).txns = s.txns := by rw [State.emits_eq]
@[simp] theorem State.emits_port (s : State) (es : List Event) : (s.emits es).port = s.port := by rw [State.emits_eq]

@[simp] theorem State.emits_node (s : State) (es : List Event) (n : NodeIx) : (s.emits es).node n = s.node n := by
  unfold State.node
  rw [State.emits_nodes]

/-- Events first and an update of a node after them, or the other way round. -/
theorem State.emits_modNode (s : State) (es : List Event) (n : NodeIx) (f : Node → Node) :
    (s.emits es).modNode n f = (s.modNode n f).emits es := by
  rw [State.emits_eq es s, State.emits_eq es (s.modNode n f), State.emits_evq_congr es (s.modNode n f) s rfl rfl]
  rfl

/-- Events first and an update of an entry after them, or the other way round. -/
theorem State.emits_modTxn (s : State) (es : List Event) (e : TxnIx) (f : Txn → Txn) :
    (s.emits es).modTxn e f = (s.modTxn e f).emits es := by
  rw [State.emits_eq es s, State.emits_eq es (s.modTxn e f), State.emits_evq_congr es (s.modTxn e f) s rfl rfl]
  rfl

/-- Events first and an update of the engine that keeps the cycle number after them, or the other way round. -/
theorem State.emits_modEngine (s : State) (es : List Event) (f : Engine → Engine) (h : ∀ g, (f g).cycle = g.cycle) :
    (s.emits es).modEngine f = (s.modEngine f).emits es := by
  rw [State.emits_eq es s, State.emits_eq es (s.modEngine f), State.emits_evq_congr es (s.modEngine f) s rfl (h _)]
  rfl

/-! ## The steps of an evaluation -/

@[simp] theorem stateEvents_self (n : NodeIx) (x : NodeState) : stateEvents n x x = [] := by
  unfold stateEvents
  rw [if_pos rfl]

/-- An update that leaves a node as it is leaves the state as it is. -/
theorem State.modNode_same (s : State) (n : NodeIx) (f : Node → Node) (h : f (s.node n) = s.node n) :
    s.modNode n f = s := by
  unfold State.modNode
  rw [h, State.setNode_self]

/-- A change of state is an update of the node with its NODE_STATE event, if it is one (R59). -/
theorem State.enterState_eq (s : State) (n : NodeIx) (x : NodeState) :
    s.enterState n x = (s.modNode n fun y => { y with state := x }).emits (stateEvents n (s.node n).state x) := by
  unfold State.enterState stateEvents
  by_cases h : (s.node n).state = x
  · rw [if_pos h, if_pos h, State.emits_nil]
    rw [State.modNode_same s n _ (by rw [← h])]
  · rw [if_neg h, if_neg h]
    rfl

/-- The comparison of the alert level is an update of the node with its NODE_ALERT event, if there is one (R43). -/
theorem State.compareAlert_eq (s : State) (n : NodeIx) (r : Completion) :
    s.compareAlert n r =
      (s.modNode n fun y => { y with alert := (r.status.map fun st => st.getLsbD 4).getD y.alert }).emits
        (alertEvents n (s.node n).alert r.status) := by
  unfold State.compareAlert alertEvents
  cases r.status with
  | none =>
    dsimp only
    rw [State.emits_nil, State.modNode_same s n _ rfl]
  | some st =>
    dsimp only
    by_cases h : st.getLsbD 4 = (s.node n).alert
    · rw [if_pos h, if_pos h, State.emits_nil]
      refine (s.modNode_same n _ ?_).symm
      show ({ s.node n with alert := st.getLsbD 4 } : Node) = s.node n
      rw [h]
    · rw [if_neg h, if_neg h]
      rw [show bitAt (st.getLsbD 4) 0 = if st.getLsbD 4 then 1 else 0 by cases st.getLsbD 4 <;> decide]
      rfl

/-! ## The steps of a boundary -/

/-- Two updates of one node are one. -/
theorem State.modNode_modNode (s : State) (n : NodeIx) (f g : Node → Node) :
    (s.modNode n f).modNode n g = s.modNode n fun x => g (f x) := by
  unfold State.modNode
  rw [State.setNode_node_same]
  unfold State.setNode
  simp

/-- NODE_DISABLE on a node is the update that `Node.afterCommand` gives, with its NODE_STATE event (R31, R59). -/
theorem State.disableNode_eq (s : State) (n : NodeIx) :
    s.disableNode n =
      (s.modNode n fun x => x.afterCommand (some .disable)).emits (stateEvents n (s.node n).state .disabled) := by
  unfold State.disableNode
  rw [State.enterState_eq, State.modNode_modNode, State.modNode_node_same]
  rfl

/-- NODE_REPROBE on a node is the update that `Node.afterCommand` gives, with its NODE_STATE event (R33, R59). -/
theorem State.reprobeNode_eq (s : State) (n : NodeIx) :
    s.reprobeNode n =
      (s.modNode n fun x => x.afterCommand (some .reprobe)).emits (stateEvents n (s.node n).state .probing) := by
  unfold State.reprobeNode
  rw [State.enterState_eq, State.modNode_modNode, State.modNode_node_same]
  rfl

/-- The end of DRAINING is an update of the engine with its events (R80). -/
theorem State.enterStopped_eq (s : State) :
    s.enterStopped = (s.modEngine fun g => { g.clearCounts with timer := none, state := .stopped }).emits
      ((if 0 < s.engine.dropped then [(.cycleOverrun, 0xFF, BitVec.ofNat 8 s.engine.dropped, 0)] else []) ++
        [(.scanState, 0xFF, 0, 2)]) := by
  refine Eq.trans ?_ (State.emits_modEngine s _ _ fun _ => rfl)
  rw [State.emits_append]
  unfold State.enterStopped State.reportDropped
  split <;> rfl

/-! ## The hand-over of an attempt -/

@[simp] theorem State.withExchange_link (s : State) (w : WorkItem) (x : Exchange) :
    (s.withExchange w x).link = { s.link with work := some { w with phase := .inFlight x }, sckMode := x.profile.mode } := rfl
@[simp] theorem State.withExchange_engine (s : State) (w : WorkItem) (x : Exchange) :
    (s.withExchange w x).engine = s.engine := rfl
@[simp] theorem State.withExchange_txns (s : State) (w : WorkItem) (x : Exchange) :
    (s.withExchange w x).txns = s.txns := rfl
@[simp] theorem State.withExchange_order (s : State) (w : WorkItem) (x : Exchange) :
    (s.withExchange w x).order = s.order := rfl

/-- The capture of the outputs clears the node's due flag, and only a CYCLIC attempt captures them (R96, R107). -/
theorem State.clearDueFor_eq (s : State) (op : LinkOp) (n : NodeIx) :
    s.clearDueFor op n = s.modNode n fun x => { x with due := x.due && op != .cyclic } := by
  unfold State.clearDueFor
  by_cases h : op = .cyclic
  · subst h
    simp
  · rw [if_neg h, State.modNode_same s n]
    rw [bne_iff_ne.2 h, Bool.and_true]

/-- A hand-over puts the exchange latched from its own state in flight and changes nothing else but SCK's idle level and the
due flag that the capture of the outputs clears (R2, R96, R107). -/
theorem State.handOver_eq (s : State) (w : WorkItem) :
    s.handOver w = s.withExchange w (s.latch w.cls w.op w.node w.toggle) := by
  unfold State.handOver
  rw [State.clearDueFor_eq]
  rfl

/-! ## Lengths on the lines -/

@[simp] theorem bitHalves_length (mode : Byte) (bit : Bool) : (bitHalves mode bit).length = 2 := by
  unfold bitHalves
  split <;> rfl

@[simp] theorem byteHalves_length (mode b : Byte) : (byteHalves mode b).length = 16 := by
  simp [byteHalves]

@[simp] theorem gapHalves_length (p : Profile) (level : Bool) : (gapHalves p level).length = 2 * p.byteGap.toNat := by
  simp [gapHalves]

@[simp] theorem Exchange.gapAfterRequest_length (x : Exchange) :
    x.gapAfterRequest.length = 2 * x.profile.byteGap.toNat := by
  simp [Exchange.gapAfterRequest]

/-- Each byte is eight bit times, each gap BYTE_GAP of them (R15). -/
theorem bytesHalves_length (p : Profile) (hold : Byte → Bool) : ∀ bs : List Byte,
    (bytesHalves p hold bs).length = 16 * bs.length + 2 * p.byteGap.toNat * (bs.length - 1)
  | [] => rfl
  | [b] => by simp [bytesHalves]
  | b :: c :: rest => by
    have ih := bytesHalves_length p hold (c :: rest)
    simp only [bytesHalves, List.length_append, byteHalves_length, gapHalves_length, ih, List.length_cons,
      Nat.add_sub_cancel]
    ring

/-! ## The straps -/

@[simp] theorem AdrPins.resample_samples (p : AdrPins) : p.resample.samples = p.samples + 1 := rfl
@[simp] theorem AdrPins.resample_levels (p : AdrPins) : p.resample.levels = Config.strapLevels p.samples := rfl

end Sys2Proof.Machine
end

