-- ==== Sys2Proof/Laws/Choice.lean ====
section
/-! SUPPORT. The choice of the Link Arbiter as a chain of its few steps, and what it leaves alone besides the host's side:
CMD_STATUS, the engine's clock side, and every node but for its due flag and its gap-probe mark. -/

namespace Sys2Proof.Machine

/-- The steps a choice is made of. -/
structure ChoiceSteps (R : State → State → Prop) : Prop where
  refl : ∀ s, R s s
  trans : ∀ s t u, R s t → R t u → R s u
  start : ∀ (s : State) (c : WorkClass) (op : LinkOp) (n : NodeIx), R s (s.startWork c op n)
  mark : ∀ (s : State) (n : NodeIx), R s (s.modNode n fun x => { x with gapMark := true })
  cursor : ∀ (s : State) (k : Nat), R s (s.modEngine fun g => { g with cursor := k })
  activate : ∀ (s : State) (e : TxnIx) (rest : List TxnIx),
    R s (({ s with order := rest } : State).modTxn e fun u => { u with state := .active })
  unavailable : ∀ (s : State) (e : TxnIx) (rest : List TxnIx), R s (({ s with order := rest } : State).failUnavailable e)
  endCycle : ∀ s : State, s.engine.state = .cycling → R s s.endCycle

variable {R : State → State → Prop}

theorem ChoiceSteps.tryUrgent (h : ChoiceSteps R) {s t : State} (e : s.tryUrgent = some t) : R s t := by
  unfold State.tryUrgent at e
  obtain ⟨n, _, rfl⟩ := Option.map_eq_some_iff.1 e
  exact h.start s _ _ _

theorem ChoiceSteps.tryUrgentFirst (h : ChoiceSteps R) {s t : State} (e : s.tryUrgentFirst = some t) : R s t := by
  unfold State.tryUrgentFirst at e
  split at e
  · cases e
  · exact h.tryUrgent e

theorem ChoiceSteps.tryGapProbe (h : ChoiceSteps R) {s t : State} (e : s.tryGapProbe = some t) : R s t := by
  unfold State.tryGapProbe at e
  obtain ⟨n, _, rfl⟩ := Option.map_eq_some_iff.1 e
  exact h.trans _ _ _ (h.start s _ _ _) (h.mark _ n)

theorem ChoiceSteps.trySlot (h : ChoiceSteps R) {s t : State} (e : s.trySlot = some t) : R s t := by
  unfold State.trySlot at e
  obtain ⟨k, _, rfl⟩ := Option.map_eq_some_iff.1 e
  exact h.trans _ _ _ (h.cursor s _) (h.start _ _ _ _)

theorem ChoiceSteps.tryTxn_handed (h : ChoiceSteps R) {s t : State} (e : s.tryTxn = .handed t) : R s t := by
  unfold State.tryTxn at e
  split at e
  · cases e
  · dsimp only at e
    split at e
    · cases e
      exact h.trans _ _ _ (h.activate s _ _) (h.start _ _ _ _)
    · cases e

theorem ChoiceSteps.tryTxn_unavailable (h : ChoiceSteps R) {s t : State} (e : s.tryTxn = .unavailable t) : R s t := by
  unfold State.tryTxn at e
  split at e
  · cases e
  · dsimp only at e
    split at e
    · cases e
    · cases e
      exact h.unavailable s _ _

theorem ChoiceSteps.chooseGap (h : ChoiceSteps R) (fuel : Nat) (s : State) : R s (State.chooseGap fuel s) := by
  induction fuel generalizing s with
  | zero => exact h.refl s
  | succ k ih =>
    unfold State.chooseGap
    split
    · next t e => exact h.tryUrgentFirst e
    · split
      · next t e =>
        split at e
        · exact h.tryGapProbe e
        · cases e
      · split
        · next t e => exact h.tryTxn_handed e
        · next t e => exact h.trans _ _ _ (h.tryTxn_unavailable e) (ih t)
        · cases e : s.tryUrgent with
          | none => exact h.refl s
          | some t => exact h.tryUrgent e

theorem State.tryTxn_unavailable_engine {s t : State} (h : s.tryTxn = .unavailable t) : t.engine = s.engine := by
  unfold State.tryTxn at h
  split at h
  · cases h
  · dsimp only at h
    split at h
    · cases h
    · cases h
      simp [State.failUnavailable, State.emitTxnEnd]

theorem ChoiceSteps.chooseCycling (h : ChoiceSteps R) (fuel : Nat) (s : State) (hs : s.engine.state = .cycling) :
    R s (State.chooseCycling fuel s) := by
  induction fuel generalizing s with
  | zero => exact h.refl s
  | succ k ih =>
    unfold State.chooseCycling
    split
    · next t e => exact h.tryUrgentFirst e
    · split
      · next t e =>
        split at e
        · exact h.tryTxn_handed e
        · cases e
      · next t e =>
        split at e
        · exact h.trans _ _ _ (h.tryTxn_unavailable e) (ih t (State.tryTxn_unavailable_engine e ▸ hs))
        · cases e
      · cases e : s.trySlot with
        | none => exact h.trans _ _ _ (h.endCycle s hs) (h.chooseGap _ _)
        | some t => exact h.trySlot e

/-- A relation that holds across each step of a choice holds across the choice. -/
theorem ChoiceSteps.choose (h : ChoiceSteps R) (s : State) : R s s.choose := by
  unfold State.choose
  split
  · next e => exact h.chooseCycling _ s e
  · exact h.chooseGap _ s
  · exact h.chooseGap _ s
  · exact h.refl s

theorem ChoiceSteps.idleBoundary (h : ChoiceSteps R) (s : State) : R s s.idleBoundary := by
  unfold State.idleBoundary
  split
  · exact h.choose s
  · exact h.refl s

/-! ## What a choice leaves alone -/

/-- A node but for what the arbiter owns of it: the due flag and the gap-probe mark (R92, R95). -/
def Node.apart (x : Node) : Node := { x with due := false, gapMark := false }

/-- A choice may lie between the two states. -/
structure State.Chosen (s t : State) : Prop where
  cmd : t.cmd = s.cmd
  cycle : t.engine.cycle = s.engine.cycle
  timer : t.engine.timer = s.engine.timer
  latchedLen : t.engine.latchedLen = s.engine.latchedLen
  overruns : t.engine.overruns = s.engine.overruns
  running : t.engine.state = s.engine.state ∨ s.engine.state = .cycling ∧ t.engine.state = .waiting
  node : ∀ n, (t.node n).apart = (s.node n).apart

theorem State.Chosen.refl (s : State) : s.Chosen s := ⟨rfl, rfl, rfl, rfl, rfl, .inl rfl, fun _ => rfl⟩

theorem State.Chosen.trans {s t u : State} (h : s.Chosen t) (k : t.Chosen u) : s.Chosen u := by
  refine ⟨k.cmd.trans h.cmd, k.cycle.trans h.cycle, k.timer.trans h.timer, k.latchedLen.trans h.latchedLen,
    k.overruns.trans h.overruns, ?_, fun n => (k.node n).trans (h.node n)⟩
  rcases k.running with e | ⟨e, e'⟩ <;> rcases h.running with f | ⟨f, f'⟩
  · exact .inl (e.trans f)
  · exact .inr ⟨f, e.trans f'⟩
  · exact .inr ⟨f ▸ e, e'⟩
  · exact .inr ⟨f, e'⟩

theorem State.chosen_modNode (s : State) (n : NodeIx) (f : Node → Node) (h : ∀ x, (f x).apart = x.apart) :
    s.Chosen (s.modNode n f) := by
  refine ⟨rfl, rfl, rfl, rfl, rfl, .inl rfl, fun m => ?_⟩
  rw [State.modNode_node]
  split
  · next e => subst e; exact h _
  · rfl

theorem State.chosen_modLink (s : State) (f : Link → Link) : s.Chosen (s.modLink f) :=
  ⟨rfl, rfl, rfl, rfl, rfl, .inl rfl, fun _ => rfl⟩

theorem State.chosen_handOver (s : State) (w : WorkItem) : s.Chosen (s.handOver w) := by
  unfold State.handOver State.clearDueFor
  dsimp only
  split
  · exact (s.chosen_modNode _ (fun x => { x with due := false }) fun _ => rfl).trans (State.chosen_modLink _ _)
  · exact s.chosen_modLink _

theorem State.chosen_handOverRetry (s : State) : s.Chosen s.handOverRetry := by
  unfold State.handOverRetry
  split
  · split
    · split
      · exact .refl s
      · exact s.chosen_handOver _
    · exact .refl s
  · exact .refl s

theorem State.chosen_emit (s : State) (k : EventKind) (n a b : Byte) : s.Chosen (s.emit k n a b) :=
  ⟨by simp, by simp, by simp, by simp, by simp, .inl (by simp), fun m => by simp⟩

theorem State.chosen_endCycle (s : State) (h : s.engine.state = .cycling) : s.Chosen s.endCycle := by
  refine ⟨?_, ?_, ?_, ?_, ?_, .inr ⟨h, ?_⟩, fun n => ?_⟩
  all_goals
    simp only [State.endCycle, State.enterWaiting, State.reportDropped]
    split <;> simp [Engine.clearCounts, Node.apart]

theorem State.chosen_failUnavailable (s : State) (e : TxnIx) (rest : List TxnIx) :
    s.Chosen (({ s with order := rest } : State).failUnavailable e) := by
  have h : s.Chosen (({ s with order := rest } : State).modTxn e fun t => { t with
      state := .failed, result := some .nodeUnavailable, attempts := 0, replyStatus := 0,
      rdata := Vector.replicate 8 0, cancelMark := false }) := ⟨rfl, rfl, rfl, rfl, rfl, .inl rfl, fun _ => rfl⟩
  unfold State.failUnavailable State.emitTxnEnd
  exact h.trans (State.chosen_emit _ _ _ _ _)

theorem State.chosen_steps : ChoiceSteps State.Chosen where
  refl := .refl
  trans _ _ _ := .trans
  start s c op n := by
    unfold State.startWork
    exact (s.chosen_handOver _).trans (State.chosen_modLink _ _)
  mark s n := s.chosen_modNode n _ fun _ => rfl
  cursor _ _ := ⟨rfl, rfl, rfl, rfl, rfl, .inl rfl, fun _ => rfl⟩
  activate _ _ _ := ⟨rfl, rfl, rfl, rfl, rfl, .inl rfl, fun _ => rfl⟩
  unavailable := State.chosen_failUnavailable
  endCycle := State.chosen_endCycle

/-- What a choice leaves alone. -/
theorem State.chosen_choose (s : State) : s.Chosen s.choose := State.chosen_steps.choose s

theorem State.chosen_idleBoundary (s : State) : s.Chosen s.idleBoundary := State.chosen_steps.idleBoundary s

end Sys2Proof.Machine
end

