-- ==== Sys2Proof/Laws/ChoicePort.lean ====
section
/-! SUPPORT. A choice neither reads nor writes the host port: for commands whose byte advances the port after their effect. -/

namespace Sys2Proof.Machine

theorem State.emit_modPort (s : State) (f : Port → Port) (k : EventKind) (n a b : Byte) :
    (s.modPort f).emit k n a b = (s.emit k n a b).modPort f := by
  rw [State.emit_eq, State.emit_eq s]
  rfl

theorem State.failUnavailable_modPort (s : State) (f : Port → Port) (e : TxnIx) :
    (s.modPort f).failUnavailable e = (s.failUnavailable e).modPort f := by
  unfold State.failUnavailable State.emitTxnEnd
  dsimp only
  rw [State.emit_eq, State.emit_eq (s.modTxn e _)]
  rfl

theorem State.startWork_modPort (s : State) (f : Port → Port) (c : WorkClass) (op : LinkOp) (n : NodeIx) :
    (s.modPort f).startWork c op n = (s.startWork c op n).modPort f := by
  cases op <;> rfl

theorem State.endCycle_modPort (s : State) (f : Port → Port) : (s.modPort f).endCycle = s.endCycle.modPort f := by
  unfold State.endCycle State.reportDropped
  dsimp only
  by_cases h : 0 < s.engine.dropped
  · rw [if_pos (by simpa using h), if_pos (by simpa using h)]
    rw [State.emit_eq, State.emit_eq (s.modEngine _), State.emit_eq, State.emit_eq]
    rfl
  · rw [if_neg (by simpa using h), if_neg (by simpa using h)]
    rw [State.emit_eq, State.emit_eq (s.modEngine _)]
    rfl

theorem State.tryUrgent_modPort (s : State) (f : Port → Port) :
    (s.modPort f).tryUrgent = s.tryUrgent.map fun t => t.modPort f := by
  unfold State.tryUrgent
  rw [Option.map_map]
  exact congrArg (fun g => s.urgentNode.map g) (funext fun n => s.startWork_modPort f _ _ n)

theorem State.tryUrgentFirst_modPort (s : State) (f : Port → Port) :
    (s.modPort f).tryUrgentFirst = s.tryUrgentFirst.map fun t => t.modPort f := by
  unfold State.tryUrgentFirst
  rw [State.modPort_link]
  split
  · rfl
  · exact s.tryUrgent_modPort f

theorem State.tryGapProbe_modPort (s : State) (f : Port → Port) :
    (s.modPort f).tryGapProbe = s.tryGapProbe.map fun t => t.modPort f := by
  unfold State.tryGapProbe
  rw [Option.map_map]
  refine congrArg (fun g => ((List.finRange 16).find? fun n => s.needsGapProbe n).map g) (funext fun n => ?_)
  rw [State.startWork_modPort]
  rfl

theorem State.trySlot_modPort (s : State) (f : Port → Port) :
    (s.modPort f).trySlot = s.trySlot.map fun t => t.modPort f := by
  unfold State.trySlot
  rw [Option.map_map]
  refine congrArg (fun g => s.searchSlot.map g) (funext fun k => ?_)
  exact State.startWork_modPort (s.modEngine fun g => { g with cursor := k.val + 1 }) f _ _ _

/-- What a try of class T gives, with every state in it updated. -/
def TxnTry.map (f : State → State) : TxnTry → TxnTry
  | .absent => .absent
  | .handed s => .handed (f s)
  | .unavailable s => .unavailable (f s)

theorem State.tryTxn_modPort (s : State) (f : Port → Port) :
    (s.modPort f).tryTxn = s.tryTxn.map fun t => t.modPort f := by
  unfold State.tryTxn
  rw [State.modPort_order]
  cases s.order with
  | nil => rfl
  | cons e rest =>
    dsimp only
    show (if (s.node (s.txn e).nodeIx).serviceClass = .cyclic then _ else _) =
      TxnTry.map _ (if (s.node (s.txn e).nodeIx).serviceClass = .cyclic then _ else _)
    by_cases h : (s.node (s.txn e).nodeIx).serviceClass = .cyclic
    · rw [if_pos h, if_pos h]
      exact congrArg TxnTry.handed (State.startWork_modPort
        (({ s with order := rest } : State).modTxn e fun u => { u with state := .active }) f _ _ _)
    · rw [if_neg h, if_neg h]
      exact congrArg TxnTry.unavailable (State.failUnavailable_modPort { s with order := rest } f e)

theorem State.chooseGap_modPort (f : Port → Port) (fuel : Nat) : ∀ s : State,
    State.chooseGap fuel (s.modPort f) = (State.chooseGap fuel s).modPort f := by
  induction fuel with
  | zero => exact fun _ => rfl
  | succ k ih =>
    intro s
    unfold State.chooseGap
    rw [State.tryUrgentFirst_modPort, State.tryGapProbe_modPort, State.tryTxn_modPort, State.tryUrgent_modPort,
      State.modPort_engine]
    cases s.tryUrgentFirst with
    | some t => rfl
    | none =>
      by_cases h : s.engine.state = .waiting
      · simp only [if_pos h, Option.map_none]
        cases s.tryGapProbe with
        | some t => rfl
        | none =>
          cases s.tryTxn with
          | absent => cases s.tryUrgent <;> rfl
          | handed t => rfl
          | unavailable t => exact ih t
      · simp only [if_neg h, Option.map_none]
        cases s.tryTxn with
        | absent => cases s.tryUrgent <;> rfl
        | handed t => rfl
        | unavailable t => exact ih t

theorem State.chooseCycling_modPort (f : Port → Port) (fuel : Nat) : ∀ s : State,
    State.chooseCycling fuel (s.modPort f) = (State.chooseCycling fuel s).modPort f := by
  induction fuel with
  | zero => exact fun _ => rfl
  | succ k ih =>
    intro s
    unfold State.chooseCycling
    rw [State.tryUrgentFirst_modPort, State.tryTxn_modPort, State.trySlot_modPort, State.endCycle_modPort,
      State.chooseGap_modPort, show (s.modPort f).txnAdmitted = s.txnAdmitted from rfl, State.modPort_order]
    cases s.tryUrgentFirst with
    | some t => rfl
    | none =>
      cases s.txnAdmitted with
      | false => cases s.trySlot <;> rfl
      | true =>
        cases s.tryTxn with
        | absent => cases s.trySlot <;> rfl
        | handed t => rfl
        | unavailable t => exact ih t

/-- A choice reads nothing of the host port and changes nothing of it. -/
theorem State.choose_modPort (s : State) (f : Port → Port) : (s.modPort f).choose = s.choose.modPort f := by
  unfold State.choose
  rw [State.modPort_engine, State.modPort_order, State.chooseCycling_modPort, State.chooseGap_modPort]
  cases s.engine.state <;> rfl

end Sys2Proof.Machine
end

