-- ==== Sys2Proof/Laws/Memory.lean ====
section
/-! SUPPORT. The staging buffer as a memory: read after write, the frame of a write, and the canonical form. -/

namespace Sys2Proof.Machine

@[simp] theorem Memory.read_nil (a : Nat) : Memory.read [] a = none := rfl

/-- A byte staged at a position is read back there. -/
@[simp] theorem Memory.read_write_same (m : Memory) (a : Nat) (v : Byte) : (m.write a v).read a = some v := by
  induction m with
  | nil => simp [Memory.write, Memory.read]
  | cons c rest ih =>
    obtain ⟨k, b⟩ := c
    simp only [Memory.write]
    split
    · simp [Memory.read]
    · split
      · simp [Memory.read]
      · rename_i h
        simp [Memory.read, Ne.symm h, ih]

/-- Staging a byte leaves every other position as it was. -/
theorem Memory.read_write_other (m : Memory) {a a' : Nat} (v : Byte) (h : a' ≠ a) :
    (m.write a v).read a' = m.read a' := by
  induction m with
  | nil => simp [Memory.write, Memory.read, Ne.symm h]
  | cons c rest ih =>
    obtain ⟨k, b⟩ := c
    simp only [Memory.write]
    split
    · simp [Memory.read, Ne.symm h]
    · split
      · rename_i e
        subst e
        simp [Memory.read, Ne.symm h]
      · simp [Memory.read, ih]

/-- The read of any position after a byte is staged. -/
theorem Memory.read_write (m : Memory) (a a' : Nat) (v : Byte) :
    (m.write a v).read a' = if a' = a then some v else m.read a' := by
  by_cases h : a' = a
  · simp [h]
  · simp [h, Memory.read_write_other]

/-- Every position of a list is above `a`. -/
def Memory.above (a : Nat) (m : Memory) : Prop := ∀ c ∈ m, a < c.1

/-- The canonical form of a list with a first cell: what follows lies above it and is canonical. -/
theorem Memory.wf_cons (k : Nat) (b : Byte) (m : Memory) :
    Memory.wf ((k, b) :: m) = true ↔ Memory.above k m ∧ m.wf = true := by
  induction m generalizing k b with
  | nil => simp [Memory.wf, Memory.above]
  | cons c rest ih =>
    obtain ⟨k', b'⟩ := c
    simp only [Memory.wf, Bool.and_eq_true, decide_eq_true_eq, ih k' b', Memory.above, List.forall_mem_cons]
    constructor
    · rintro ⟨h, h1, h2⟩
      exact ⟨⟨h, fun c hc => Nat.lt_trans h (h1 c hc)⟩, h1, h2⟩
    · rintro ⟨⟨h, _⟩, h1, h2⟩
      exact ⟨h, h1, h2⟩

/-- The cells after a write are the written one and old ones. -/
theorem Memory.mem_write {m : Memory} {a : Nat} {v : Byte} {c : Host.Cell} (h : c ∈ m.write a v) :
    c = (a, v) ∨ c ∈ m := by
  induction m with
  | nil => simpa [Memory.write] using h
  | cons d rest ih =>
    obtain ⟨k, b⟩ := d
    simp only [Memory.write] at h
    split at h
    · simpa using h
    · split at h
      · rcases List.mem_cons.1 h with h | h
        · exact .inl h
        · exact .inr (List.mem_cons_of_mem _ h)
      · rcases List.mem_cons.1 h with h | h
        · exact .inr (by simp [h])
        · exact (ih h).imp id (List.mem_cons_of_mem _)

/-- Staging a byte keeps the canonical form. -/
theorem Memory.wf_write (m : Memory) (a : Nat) (v : Byte) (h : m.wf = true) : (m.write a v).wf = true := by
  induction m with
  | nil => rfl
  | cons c rest ih =>
    obtain ⟨k, b⟩ := c
    obtain ⟨h1, h2⟩ := (Memory.wf_cons k b rest).1 h
    simp only [Memory.write]
    split
    · rename_i hk
      refine (Memory.wf_cons a v _).2 ⟨?_, h⟩
      intro c hc
      rcases List.mem_cons.1 hc with rfl | hc
      · exact hk
      · exact Nat.lt_trans hk (h1 c hc)
    · split
      · rename_i e
        subst e
        exact (Memory.wf_cons a v _).2 ⟨h1, h2⟩
      · rename_i n1 n2
        refine (Memory.wf_cons k b _).2 ⟨?_, ih h2⟩
        intro c hc
        rcases Memory.mem_write hc with rfl | hc
        · exact Nat.lt_of_le_of_ne (Nat.le_of_not_lt n1) (Ne.symm n2)
        · exact h1 c hc

/-- Staging a byte at one of the 128 positions of the output window keeps every position among them. -/
theorem Memory.bound_write (m : Memory) (a : Nat) (v : Byte) (ha : a < 128)
    (h : (m.all fun c => decide (c.1 < 128)) = true) : ((m.write a v).all fun c => decide (c.1 < 128)) = true := by
  simp only [List.all_eq_true, decide_eq_true_eq] at h ⊢
  intro c hc
  rcases Memory.mem_write hc with rfl | hc
  · exact ha
  · exact h c hc

end Sys2Proof.Machine
end

