-- ==== Sys2Proof/Laws/Port.lean ====
section
/-! SUPPORT. How a command reaches the port: the moment it is taken in, the byte rows by the phase of the transfer, and
what a register write leaves of the port. -/

namespace Sys2Proof.Machine

/-! ## The moment of a command -/

theorem State.takeDueRead_none {s : State} (h : s.port.readDue = false) : s.takeDueRead = s := by
  simp [State.takeDueRead, h]

/-- With no byte due the command is taken first, and a retry that waits goes out after it. -/
theorem State.moment_notDue {s : State} (f : State → State) (h : s.port.readDue = false) :
    State.moment f s = (f s).handOverRetry := by
  simp [State.moment, State.takeDueRead_none h]

/-- Where no retry waits after it either, the command is taken by itself. -/
theorem State.moment_calm {s : State} {f : State → State} (h : s.port.readDue = false) (hf : (f s).calm) :
    State.moment f s = f s := by
  rw [State.moment_notDue f h, State.handOverRetry_calm hf]

/-! ## Rows that are a byte -/

/-- Every row that is a byte of a write transfer is that byte, taken by the phase. -/
theorem exec_sentByte {c : Instr} {b : Byte} (h : c.sentByte = some b) (s : State) :
    exec c s = .next (State.moment (·.receiveByte b) s) := by
  cases c <;> cases h <;> rfl

/-- Every row that asks for a byte is the next byte of the read transfer. -/
theorem exec_asksByte {c : Instr} (h : c.asksByte = true) (s : State) : exec c s = .next s.readMoment := by
  cases c <;> first | rfl | cases h

/-- A data byte of a write transfer, as the register at the pointer takes it; a retry that waits goes out after it. -/
theorem exec_writing {c : Instr} {b : Byte} {s : State} {a : Addr} (hc : c.sentByte = some b) (h : s.writingAt a) :
    exec c s = .next (State.handOverRetry ((s.writeReg (regAt a) b).modPort fun p =>
      { p with pointer := nextPointer p.pointer, ack := true })) := by
  obtain ⟨hd, hp, ha⟩ := h
  rw [exec_sentByte hc, State.moment_notDue _ hd]
  simp [State.receiveByte, State.dataByte, hp, ha]

/-- The same where no retry waits. -/
theorem exec_writing_calm {c : Instr} {b : Byte} {s : State} {a : Addr} (hc : c.sentByte = some b) (h : s.writingAt a)
    (hs : s.calm) :
    exec c s = .next ((s.writeReg (regAt a) b).modPort fun p => { p with pointer := nextPointer p.pointer, ack := true }) := by
  rw [exec_writing hc h, State.handOverRetry_calm]
  exact State.calm_writeReg hs _ _

/-- A byte of a read transfer, as the register at the pointer gives it; a retry that waits goes out after it. -/
theorem exec_reading {c : Instr} {s : State} {a : Addr} (hc : c.asksByte = true) (h : s.readingAt a) :
    exec c s = .next (State.handOverRetry ((s.readEffect (regAt a)).modPort fun p =>
      { p with pointer := nextPointer p.pointer, readDue := false, sdaByte := some (s.readReg (regAt a)) })) := by
  obtain ⟨hp, ha⟩ := h
  rw [exec_asksByte hc, State.readMoment, State.requestByte, if_pos hp, State.supplyByte, ha]

/-- A command that asks for no byte finds the byte that is due already read. -/
theorem exec_due {c : Instr} (hc : c.asksByte = false) (s : State) : exec c s = exec c s.takeDueRead := by
  have e : s.takeDueRead.takeDueRead = s.takeDueRead := by
    cases h : s.port.readDue
    · rw [State.takeDueRead_none h, State.takeDueRead_none h]
    · rw [State.takeDueRead_none (s := s.takeDueRead)]
      simp [State.takeDueRead, h, State.supplyByte, State.modPort]
  cases c <;> first
    | exact absurd hc (by decide)
    | (show Host.Outcome.next (State.moment _ s) = Host.Outcome.next (State.moment _ s.takeDueRead)
       rw [State.moment, State.moment, e])
    | (show Host.Outcome.next (State.completionMoment s _ _) = Host.Outcome.next (State.completionMoment s.takeDueRead _ _)
       rw [State.completionMoment, State.completionMoment, e])

/-! ## What a register write leaves of the port -/

/-- Two ports agree but for the staging and the soft reset mark. -/
def Port.SameTransfer (p q : Port) : Prop := q = { p with staging := q.staging, softMark := q.softMark }

theorem Port.SameTransfer.refl (p : Port) : p.SameTransfer p := rfl

theorem Port.sameTransfer_of_eq {p q : Port} (h : q = p) : p.SameTransfer q := by subst h; rfl

theorem Port.sameTransfer_raise (s : State) (e : HostError) : s.port.SameTransfer (s.raiseHere e).port := rfl

theorem State.kept_probeBoundary (s : State) (n : NodeIx) : s.HostSideKept (s.probeBoundary n) := by
  unfold State.probeBoundary
  split
  · exact s.kept_idleBoundary
  · exact .refl s

theorem State.command_port (s : State) (b : Byte) : s.port.SameTransfer (s.command b).port := by
  unfold State.command
  split
  · unfold State.cmdStartScan
    split
    · dsimp only
      have h : s.port = (((s.answer .ok).modEngine fun g => { g with latchedLen := g.schedLen.toNat }).enterWaiting.emit
          .scanState Config.noNode EngineState.waiting.code 1).port := by rw [State.emit_port]; rfl
      split
      · exact Port.sameTransfer_of_eq ((State.kept_idleBoundary _).port.trans ((State.kept_beginCycle _).port.trans h.symm))
      · exact Port.sameTransfer_of_eq ((State.kept_idleBoundary _).port.trans h.symm)
    · exact .refl _
  split
  · unfold State.cmdStopScan
    split
    · exact .refl _
    · exact .refl _
    · exact Port.sameTransfer_of_eq (State.kept_enterStopped _).port
    · split
      · exact Port.sameTransfer_of_eq (State.kept_enterStopped _).port
      · exact Port.sameTransfer_of_eq (State.kept_withdrawRetry _).port
  split
  · unfold State.cmdTriggerCycle
    split
    · exact .refl _
    · exact Port.sameTransfer_of_eq (State.kept_cycleStart _).port
  split
  · unfold State.cmdNode
    split
    · unfold State.nodeEnable
      split
      · exact .refl _
      · split
        · exact Port.sameTransfer_of_eq ((State.kept_probeBoundary _ _).port.trans (State.kept_enableNode _ _).port)
        · exact .refl _
    · exact .refl _
  split
  · unfold State.cmdNode
    split
    · unfold State.nodeDisable
      split
      · exact .refl _
      · split
        · exact Port.sameTransfer_of_eq (State.kept_withdrawRetry _).port
        · exact Port.sameTransfer_of_eq (State.kept_disableNode _ _).port
    · exact .refl _
  split
  · unfold State.cmdNode
    split
    · unfold State.nodeReprobe
      split
      · exact .refl _
      · split
        · split
          · exact .refl _
          · exact Port.sameTransfer_of_eq (State.kept_withdrawRetry _).port
        · exact Port.sameTransfer_of_eq ((State.kept_probeBoundary _ _).port.trans (State.kept_reprobeNode _ _).port)
    · exact .refl _
  split
  · exact .refl _
  split
  · rfl
  split
  · rfl
  · exact .refl _

theorem State.kept_suppressTxn (s : State) (e : TxnIx) : s.HostSideKept (s.suppressTxn e) := by
  unfold State.suppressTxn
  split
  · split
    · split
      · exact s.kept_suppress.trans (State.kept_withdrawRetry _)
      · exact .refl s
    · exact .refl s
  · exact .refl s

theorem State.withHandle_port (s : State) (h : Byte) (f : State → TxnIx → State)
    (hf : ∀ e, s.port.SameTransfer (f s e).port) : s.port.SameTransfer (s.withHandle h f).port := by
  unfold State.withHandle
  split
  · exact hf _
  · exact .refl _

/-- A data byte written to a register touches no more of the port than the staging and the soft reset mark. -/
theorem State.writeReg_port (s : State) (r : Reg) (b : Byte) : s.port.SameTransfer (s.writeReg r b).port := by
  unfold State.writeReg
  split <;> try exact .refl _
  · exact s.command_port b
  · unfold State.writeSource; repeat' split <;> try exact .refl _
  · unfold State.writeSyncEdge; repeat' split <;> try exact .refl _
  · unfold State.writeLinkMode; repeat' split <;> try exact .refl _
  · unfold State.writePeriodLow; dsimp only; repeat' split <;> try exact .refl _
  · unfold State.writeChecked; repeat' split <;> try exact .refl _
  · unfold State.writeChecked; repeat' split <;> try exact .refl _
  · unfold State.writeChecked; repeat' split <;> try exact .refl _
  · unfold State.writeChecked; repeat' split <;> try exact .refl _
  · unfold State.writePolicy; repeat' split <;> try exact .refl _
  · unfold State.writeChecked; repeat' split <;> try exact .refl _
  · unfold State.writeChecked; repeat' split <;> try exact .refl _
  · refine s.withHandle_port b _ fun e => ?_
    unfold State.submitEntry
    dsimp only
    split
    · exact .refl _
    · split
      · exact Port.sameTransfer_of_eq (State.kept_idleBoundary _).port
      · exact .refl _
  · refine s.withHandle_port b _ fun e => ?_
    unfold State.cancelEntry
    split
    · exact .refl _
    · exact .refl _
    · exact Port.sameTransfer_of_eq (State.kept_cancelQueued _ _).port
    · exact Port.sameTransfer_of_eq (State.kept_suppressTxn _ _).port
    · exact .refl _
    · exact .refl _
    · exact .refl _
  · refine s.withHandle_port b _ fun e => ?_
    unfold State.releaseEntry
    split <;> exact .refl _
  · unfold State.writeProfile; repeat' split <;> try exact .refl _
  · unfold State.writeNodeConfig; repeat' split <;> try exact .refl _
  · unfold State.writeSlot
    dsimp only
    repeat' split
    all_goals first
      | exact .refl _
      | exact Port.sameTransfer_of_eq (State.kept_idleBoundary _).port
  · unfold State.writeTxn; repeat' split <;> try exact .refl _

end Sys2Proof.Machine
end

