-- ==== Sys2Proof/Laws/Registers.lean ====
section
/-! SUPPORT. The register that each address formula of the register map names. -/

namespace Sys2Proof.Machine

set_option Elab.async false

theorem regAt_profile : ∀ (p : ProfileIx) (k : Fin 8) (f : ProfileField), profileField k.val = some f →
    regAt (BitVec.ofNat 11 (0x040 + 8 * p.val + k.val)) = .profile p f := by
  have h : ∀ (p : ProfileIx) (k : Fin 8), regAt (BitVec.ofNat 11 (0x040 + 8 * p.val + k.val)) =
      ((profileField k.val).map (Reg.profile p)).getD .undefined := by decide +kernel
  intro p k f hf
  rw [h, hf]
  rfl

theorem regAt_nodeConfig : ∀ (n : NodeIx) (k : Fin 16) (f : NodeField), nodeField k.val = some f →
    regAt (BitVec.ofNat 11 (0x100 + 16 * n.val + k.val)) = .nodeConfig n f := by
  have h : ∀ (n : NodeIx) (k : Fin 16), regAt (BitVec.ofNat 11 (0x100 + 16 * n.val + k.val)) =
      ((nodeField k.val).map (Reg.nodeConfig n)).getD .undefined := by decide +kernel
  intro n k f hf
  rw [h, hf]
  rfl

theorem regAt_txn : ∀ (e : TxnIx) (k : Fin 32) (f : TxnField), txnField k.val = some f →
    regAt (BitVec.ofNat 11 (0x600 + 32 * e.val + k.val)) = .txn e f := by
  have h : ∀ (e : TxnIx) (k : Fin 32), regAt (BitVec.ofNat 11 (0x600 + 32 * e.val + k.val)) =
      ((txnField k.val).map (Reg.txn e)).getD .undefined := by decide +kernel
  intro e k f hf
  rw [h, hf]
  rfl

theorem regAt_nodeStatus : ∀ (n : NodeIx) (o : ByteIx),
    regAt (BitVec.ofNat 11 (0x200 + 8 * n.val + o.val)) = .nodeStatus n o := by decide +kernel

theorem regAt_slot : ∀ (k : SlotIx) (second : Bool),
    regAt (BitVec.ofNat 11 (0x280 + 2 * k.val + second.toNat)) = .slot k second := by decide +kernel

theorem regAt_output : ∀ (n : NodeIx) (i : ByteIx),
    regAt (BitVec.ofNat 11 (0x300 + 8 * n.val + i.val)) = .output n i := by decide +kernel

theorem regAt_input : ∀ (n : NodeIx) (i : ByteIx),
    regAt (BitVec.ofNat 11 (0x400 + 8 * n.val + i.val)) = .input n i := by decide +kernel

theorem regAt_rise : ∀ (n : NodeIx) (i : ByteIx),
    regAt (BitVec.ofNat 11 (0x500 + 16 * n.val + i.val)) = .rise n i := by decide +kernel

theorem regAt_fall : ∀ (n : NodeIx) (i : ByteIx),
    regAt (BitVec.ofNat 11 (0x508 + 16 * n.val + i.val)) = .fall n i := by decide +kernel

end Sys2Proof.Machine
end

