-- ==== Sys2Proof/WellFormed.lean ====
section
/-! DEFINITION. Which commands the outside can mean: the checks on their operands. `exec` is total and does not need
them; they say what a sender may put on the queue. -/

namespace Sys2Proof

/-- A reply frame is a status byte, at most eight payload bytes and a check byte (R6, R8). -/
def replyFits (reply : List Byte) : Bool := 2 ≤ reply.length && reply.length ≤ 10

/-- The operands of a command are ones its row allows. -/
def Instr.wellFormed : Instr → Bool
  | .unknownCommand code => !Config.commandCodes.contains code
  | .exchangeCompletion reply _ => replyFits reply
  | _ => true

end Sys2Proof
end

