-- ==== Sys2Proof/Tests/Slice0.lean ====
section
/-! SUPPORT. Tests of the model, each of one step on a small state with the expected values taken from the manual, and
witnesses: for each statement with hypotheses, states and operands that meet them, clause by clause. -/

namespace Sys2Proof.Tests

set_option Elab.async false

open Sys2Proof Sys2Proof.Machine

/-! ## Helpers -/

/-- The state a command answers. -/
def after (c : Instr) (s : State) : State :=
  match exec c s with
  | .next t => t
  | .fault _ => s
  | .refused _ => s

/-- A command answers a next state of which `p` holds. -/
def answers (c : Instr) (s : State) (p : State → Bool) : Bool :=
  match exec c s with
  | .next t => p t
  | .fault _ => false
  | .refused _ => false

/-- A write transfer whose next byte goes to address `a`. -/
def writing (a : Nat) (s : State) : State :=
  { s with port := { s.port with phase := .writeData, pointer := BitVec.ofNat 11 a } }

/-- A read transfer whose next byte comes from address `a`. -/
def reading (a : Nat) (s : State) : State :=
  { s with port := { s.port with phase := .readData, pointer := BitVec.ofNat 11 a } }

/-- CMD_ARG. -/
def arg (b : Byte) (s : State) : State := { s with cmd := { s.cmd with arg := b } }

/-- Node `n` in a state, with two output bytes and one input byte at address `n`. -/
def nodeIn (n : NodeIx) (st : NodeState) (s : State) : State :=
  s.modNode n fun x => { x with state := st, outLen := 2, inLen := 1, address := byteOf n.val }

/-- The engine in a state, with source HOST. -/
def engineIn (st : EngineState) (s : State) : State := s.modEngine fun g => { g with state := st, source := .host }

/-- Node 0 ONLINE. -/
def online : State := nodeIn 0 .online State.reset

/-- Node 0 PROBING. -/
def probing : State := nodeIn 0 .probing State.reset

/-- An urgent CYCLIC exchange of node 0 with its select line low. -/
def busy : State := (online.startWork .urgent .cyclic 0).assertSelect

/-- An exchange handed over within the 2 µs after a release, so that its select line is still high. -/
def handedOver : State := (online.modLink fun l => { l with rested := false }).startWork .urgent .cyclic 0

/-- The exchange of `busy` with its retries suppressed. -/
def lastTry : State := busy.suppress

/-- A gap probe of node 0 with its select line low and its retries suppressed. -/
def probe : State := ((engineIn .waiting probing).startWork .gapProbe .ident 0).suppress

/-- A reply with its check byte. -/
def framed (covered : List Byte) : List Byte := covered ++ [checkByte covered]

/-- A completion record with no reply. -/
def silent : Completion :=
  { node := 0, op := .cyclic, toggle := true, attempt := 1, outcome := .noReply, status := none, payload := [] }

/-- The same work item with a retry pending. -/
def retryWaits (s : State) : State :=
  s.modLink fun l => { l with work := l.work.map fun w => { w with phase := .retryPending silent } }

/-- The exchange of a state over with no reply, and a request met before its retry (R18). -/
def unanswered (s : State) : State := after (.exchangeCompletion [] .requestFirst) s

/-- The engine in CYCLING with a slot work item of node 0. -/
def cyclingBusy : State :=
  (engineIn .cycling online |>.modEngine fun g => { g with latchedLen := 1, cursor := 1 }).startWork .slot .cyclic 0

/-- Entry 0 of the Transaction Table in a state, asking node 0 for its identification. -/
def entryIn (st : TxnState) (r : Option TxnResult) (s : State) : State :=
  s.modTxn 0 fun t => { t with state := st, result := r, op := 3 }

/-- Entry 0 ACTIVE with its exchange of node 0. -/
def txnBusy : State := ((entryIn .active none online).startWork (.txn 0) .ident 0).suppress

/-- A record of kind INPUT_CHANGE of node 0. -/
def change : Record := { kind := .inputChange, node := 0, stamp := 0, arg0 := 1, arg1 := 1 }

/-- The queue holding `n` INPUT_CHANGE records of node 0. -/
def queued (n : Nat) (s : State) : State := s.modEvq fun q => { q with records := List.replicate n change }

/-- The loss policy KEEP_NEWEST. -/
def newest (s : State) : State := s.modEvq fun q => { q with policy := .keepNewest }

/-- An open item with its next byte. -/
def opened (item : OpenItem) (k : Fin 6) (s : State) : State :=
  s.modEvq fun q => { q with reading := some { item := item, next := k } }

/-! ## Well-formed commands -/

/-- A code that has a command is no UNKNOWN_COMMAND (R178). -/
theorem test_wellFormed_unknownCommand :
    (Instr.unknownCommand 0x01).wellFormed = false ∧ (Instr.unknownCommand 0x04).wellFormed = true := by decide

/-- A reply has a status byte, at most eight payload bytes and a check byte (R8). -/
theorem test_wellFormed_reply :
    (Instr.exchangeCompletion [0x40] .retryFirst).wellFormed = false ∧
    (Instr.exchangeCompletion (List.replicate 11 0) .retryFirst).wellFormed = false ∧
    (Instr.exchangeCompletion (List.replicate 10 0) .retryFirst).wellFormed = true := by decide

/-! ## The scan link -/

/-- R7: the CRC of width 8 with polynomial 0x2F from 0xFF over the digits 1 to 9 is 0x20 (the published check value 0xDF
of that CRC has its bits inverted at the end, which R7 does not do). -/
theorem test_checkByte :
    checkByte [0x31, 0x32, 0x33, 0x34, 0x35, 0x36, 0x37, 0x38, 0x39] = 0x20 := by decide +kernel

/-- The worked counts after R15: 52 µs for the CYCLIC exchange of Example 1, 66 µs for the probe of Example 2, in units of
0.125 µs. -/
theorem test_durations :
    (Exchange.duration { node := 4, segment := 0, address := 4, op := .cyclic, toggle := false, payload := [0, 0]
                         profile := { rate := 2, mode := 0, setup := 4, hold := 2, byteGap := 1, turn := 1 }
                         replyLen := 4, selected := true } = 416) ∧
    (Exchange.duration { node := 4, segment := 0, address := 4, op := .ident, toggle := false, payload := []
                         profile := Profile.reset, replyLen := 3, selected := true } = 528) := by decide

/-- R4, by hand: the byte 0x80 in MODE 0, where SCK idles low and bits are sampled on its rising edge, and in MODE 1. -/
theorem test_waveform :
    (byteHalves 0 0x80).take 4 = [⟨false, true⟩, ⟨true, true⟩, ⟨false, false⟩, ⟨true, false⟩] ∧
    (byteHalves 1 0x80).take 4 = [⟨true, true⟩, ⟨false, true⟩, ⟨true, false⟩, ⟨false, false⟩] := by decide

/-- R4, by hand: the check byte of an IDENT request to address 0 is 0xA0 and ends in a 0 bit. In the gap of one bit time after
it SDO is high at once in MODE 0, and in MODE 1 it holds the bit until the first turnaround edge; SCK idles low in both. -/
theorem test_gapAfterRequest :
    let x (mode : Byte) : Exchange :=
      { node := 0, segment := 0, address := 0, op := .ident, toggle := false, payload := []
        profile := { Profile.reset with mode := mode, byteGap := 1 }, replyLen := 3, selected := true }
    (x 0).request = [0x06, 0xA0] ∧ (x 0).gapAfterRequest = [⟨false, true⟩, ⟨false, true⟩] ∧
    (x 1).gapAfterRequest = [⟨false, false⟩, ⟨false, false⟩] := by decide +kernel

/-- R1, R4, R20: SDO is high with no exchange in flight, takes the first bit of H (0 for address 0) when select goes low,
and goes high when SCAN_CLEAR cuts the exchange off. -/
theorem test_sdoRest :
    State.reset.sdoRest = true ∧ handedOver.sdoRest = true ∧ busy.sdoRest = false ∧
    answers .scanClear (writing 0x009 busy) (fun t => t.sdoRest) = true := by decide +kernel

/-- R3, R4: an exchange begins with SETUP (4 half microseconds) and the first bit of H, and ends with HOLD and SDO high. -/
theorem test_signal :
    let x : Exchange :=
      { node := 4, segment := 0, address := 0x14, op := .ident, toggle := false, payload := []
        profile := { rate := 2, mode := 2, setup := 4, hold := 2, byteGap := 1, turn := 1 }, replyLen := 3, selected := true }
    x.signal.head? = some ⟨⟨true, true⟩, 32⟩ ∧ x.signal.getLast? = some ⟨⟨true, true⟩, 16⟩ := by decide +kernel

/-- R10: a status byte with ACK 0 and BUSY 1 is BUSY, a wrong check byte is CHECK_ERROR whatever BUSY says, a silent node is
NO_REPLY. -/
theorem test_classify :
    classify false (framed [0x08]) = .busy ∧ classify false [0x48, 0x00] = .checkError ∧
    classify true (framed [0x40]) = .seqError ∧ classify false [0xFF, 0xFF] = .noReply := by decide

/-- SELECT_ASSERT drives SEL0 low and no other line (R2). -/
theorem test_selectAssert :
    answers .selectAssert (online.startWork .urgent .cyclic 0)
      (fun t => t.selectLow 0 && !t.selectLow 1 && !t.selectLow 2 && !t.selectLow 3) = true := by decide +kernel

/-- EXCHANGE_COMPLETION: an OK CYCLIC reply stores its input byte and takes the toggle sent as SEQ (R12, R108). -/
theorem test_completion_ok :
    answers (.exchangeCompletion (framed [0x60, 0xA5]) .retryFirst) busy
      (fun t => (t.node 0).input[0] == 0xA5 && (t.node 0).seq && t.link.idle) = true := by decide +kernel

/-- EXCHANGE_COMPLETION: with RETRY_LIMIT 2 the first of three attempts to a silent node is retried (R17), and the retry
carries the outputs committed since the first hand-over (R107). -/
theorem test_completion_retry :
    answers (.exchangeCompletion [0xFF, 0xFF, 0xFF] .retryFirst) busy
      (fun t => t.link.work.any fun w => w.attempt == 2 && w.toggle) = true ∧
    answers (.exchangeCompletion [0xFF, 0xFF, 0xFF] .retryFirst)
      (busy.modNode 0 fun x => { x with output := x.output.set 0 0x77, due := true })
      (fun t => t.link.exchange.any (fun x => x.payload == [0x77, 0x00]) && !(t.node 0).due) = true := by decide +kernel

/-! ## The host port -/

/-- ADDRESS_BYTE: with both straps low the part answers 0x58, which is 0xB0 to write and 0xB1 to read (R171). -/
theorem test_addressByte :
    answers (.addressByte 0xB0) State.reset (fun t => t.port.ack && t.port.phase == .pointerHigh) = true ∧
    answers (.addressByte 0xB2) State.reset (fun t => !t.port.ack && t.port.phase == .idle) = true := by decide +kernel

/-- POINTER_HIGH_BYTE and POINTER_LOW_BYTE: a pointer written as 0x1234 becomes 0x0234 (R174). -/
theorem test_pointer :
    answers (.pointerLowByte 0x34) (after (.pointerHighByte 0x12) (after (.addressByte 0xB0) State.reset))
      (fun t => t.port.pointer == 0x234 && t.port.phase == .writeData) = true := by decide +kernel

/-- REGISTER_WRITE: after 0x07FF the pointer is 0x0000, and the write of an undefined address is an error (R174, R175). -/
theorem test_registerWrite_wraps :
    answers (.registerWrite 1) (writing 0x7FF State.reset)
      (fun t => t.port.pointer == 0 && t.err.code == some .undefinedAddr) = true := by decide +kernel

/-- REGISTER_WRITE: a legal RETRY_LIMIT and one out of range (R17). -/
theorem test_registerWrite_range :
    answers (.registerWrite 7) (writing 0x016 State.reset) (fun t => t.engine.retryLimit == 7 && !t.err.flag) = true ∧
    answers (.registerWrite 8) (writing 0x016 State.reset)
      (fun t => t.engine.retryLimit == 2 && t.err.code == some .badValue) = true := by decide +kernel

/-- OUTPUT_WRITE stages a byte and TRANSFER_END commits it (R103, R104). -/
theorem test_outputWrite :
    answers (.outputWrite 0x5A) (writing 0x309 State.reset)
      (fun t => (t.node 1).output[1] == 0 && (after .transferEnd t |>.node 1).output[1] == 0x5A) = true := by decide +kernel

/-- BUS_TIMEOUT discards the staging (R105). -/
theorem test_busTimeout :
    answers .busTimeout (after (.outputWrite 0x5A) (writing 0x309 State.reset))
      (fun t => (t.node 1).output[1] == 0 && t.port.phase == .idle && t.port.staging.isEmpty) = true := by decide +kernel

/-- OPTIONS_WRITE: bits 7–3 are reserved (R24). -/
theorem test_optionsWrite :
    answers (.optionsWrite 7) (writing 0x108 State.reset) (fun t => (t.node 0).options == 7) = true ∧
    answers (.optionsWrite 8) (writing 0x108 State.reset) (fun t => t.err.code == some .badValue) = true := by decide +kernel

/-- SLOT_WRITE: divisor code 1 allows the phases 0 and 1 (R62). -/
theorem test_slotWrite :
    answers (.slotWrite 0x11) (writing 0x281 State.reset) (fun t => t.slots[0].divisor == 2 && t.slots[0].phase == 1) = true ∧
    answers (.slotWrite 0x12) (writing 0x281 State.reset) (fun t => t.err.code == some .badValue) = true := by decide +kernel

/-- CYCLE_PERIOD_WRITE: the low byte takes both halves together (R68). -/
theorem test_cyclePeriodWrite :
    answers (.cyclePeriodWrite 0x34) (after (.cyclePeriodWrite 0x12) (writing 0x013 State.reset))
      (fun t => t.engine.period == 0x1234 && t.engine.pendingHigh == none) = true := by decide +kernel

/-- HOST_ERR_CLEAR (R169). -/
theorem test_hostErrClear :
    answers (.hostErrClear 0) (writing 0x034 (State.reset.raise .badHandle 0x039))
      (fun t => t.err == ErrCapture.reset) = true := by decide +kernel

/-- SNAPSHOT_READ: a later byte of the transfer comes from the capture of the first (R110). -/
theorem test_snapshotRead :
    answers .snapshotRead
      ((after .snapshotRead (reading 0x200 online)).modNode 0 fun x => { x with failCount := 3 })
      (fun t => t.port.sdaByte == some 0) = true := by decide +kernel

/-- CYCLE_NUMBER_READ: the low byte belongs to the cycle the high byte was read in (R81). -/
theorem test_cycleNumberRead :
    answers .cycleNumberRead
      ((after .cycleNumberRead (reading 0x01A (State.reset.modEngine fun g => { g with cycle := 0x01FF }))).modEngine
        fun g => { g with cycle := 0x0200 })
      (fun t => t.port.sdaByte == some 0xFF) = true := by decide +kernel

/-- EVQ_LOST_READ: both bytes belong to one count (R155). -/
theorem test_evqLostRead :
    answers .evqLostRead
      ((after .evqLostRead (reading 0x022 (State.reset.modEvq fun q => { q with lost := 0x0101 }))).modEvq
        fun q => { q with lost := 0 })
      (fun t => t.port.sdaByte == some 0x01) = true := by decide +kernel

/-- EVQ_DATA_READ: after power-on the first byte is the kind RESET, and the sixth byte removes the record (R157, R163). -/
theorem test_evqDataRead :
    answers .evqDataRead (reading 0x020 State.reset)
      (fun t => t.port.sdaByte == some 0 && t.port.pointer == 0x020 && t.evq.records.length == 1) = true ∧
    answers .evqDataRead (opened .stored 5 (reading 0x020 State.reset))
      (fun t => t.evq.records.isEmpty && t.evq.reading == none) = true := by decide +kernel

/-- HOST_NOT_ACKNOWLEDGE: no byte is read after it (R173). -/
theorem test_hostNotAcknowledge :
    answers .evqDataRead (after .hostNotAcknowledge (reading 0x020 State.reset))
      (fun t => t.evq.reading == none && t.port.sdaByte == none) = true := by decide +kernel

/-! ## Transactions -/

/-- ALLOC gives entry 0 of generation 0, and its handle is 0x00 (R130, R133). -/
theorem test_alloc :
    answers .alloc (reading 0x038 State.reset)
      (fun t => t.port.sdaByte == some 0 && (t.txn 0).state == .reserved) = true := by decide +kernel

/-- SUBMIT of an IDENT to an ONLINE node goes to the idle link at once (R94, R134). -/
theorem test_submit :
    answers (.submit 0x00) (writing 0x039 (entryIn .reserved none online))
      (fun t => (t.txn 0).state == .active && !t.link.idle) = true ∧
    answers (.submit 0x08) (writing 0x039 (entryIn .reserved none online))
      (fun t => t.err.code == some .badHandle) = true := by decide +kernel

/-- CANCEL of a terminal entry is too late (R143). -/
theorem test_cancel :
    answers (.cancel 0x00) (writing 0x03A (entryIn .done (some (.link .ok)) State.reset))
      (fun t => t.err.code == some .tooLate && t.err.addr == 0x03A) = true := by decide +kernel

/-- RELEASE advances the generation, so the handle is stale (R144). -/
theorem test_release :
    answers (.release 0x00) (writing 0x03B (entryIn .done (some (.link .ok)) State.reset))
      (fun t => (t.txn 0).state == .free && (t.txn 0).gen == 1) = true := by decide +kernel

/-! ## The command register -/

/-- START_SCAN with source TIMER starts cycle 1 at once, which ends at once with no slot to do (R72, R77). -/
theorem test_startScan :
    answers .startScan (writing 0x009 State.reset)
      (fun t => t.engine.cycle == 1 && t.engine.state == .waiting && t.engine.timer == some 100) = true := by decide +kernel

/-- STOP_SCAN drains a slot work item in flight and answers PENDING (R79). -/
theorem test_stopScan :
    answers .stopScan (writing 0x009 cyclingBusy)
      (fun t => t.engine.state == .draining && t.cmd.status == .pending) = true := by decide +kernel

/-- TRIGGER_CYCLE is refused in STOPPED (R71). -/
theorem test_triggerCycle :
    answers .triggerCycle (writing 0x009 State.reset)
      (fun t => t.cmd.status == .refusedState && t.err.code == some .cmdRefused) = true := by decide +kernel

/-- NODE_ENABLE takes a DISABLED node to PROBING (R30). -/
theorem test_nodeEnable :
    answers .nodeEnable (writing 0x009 (arg 3 State.reset))
      (fun t => (t.node 3).state == .probing && t.cmd.status == .ok) = true := by decide +kernel

/-- NODE_DISABLE of a node whose exchange is in flight is pending (R32). -/
theorem test_nodeDisable :
    answers .nodeDisable (writing 0x009 busy)
      (fun t => (t.node 0).state == .online && t.cmd.status == .pending) = true := by decide +kernel

/-- NODE_REPROBE of a DISABLED node is refused (R33). -/
theorem test_nodeReprobe :
    answers .nodeReprobe (writing 0x009 State.reset) (fun t => t.cmd.status == .refusedState) = true := by decide +kernel

/-- EVQ_FLUSH removes the RESET record (R159). -/
theorem test_evqFlush :
    answers .evqFlush (writing 0x009 State.reset) (fun t => t.evq.records.isEmpty && t.cmd.status == .ok) = true := by
  decide +kernel

/-- SCAN_CLEAR cuts off the exchange in flight and takes the node to PROBING (R20, R36). -/
theorem test_scanClear :
    answers .scanClear (writing 0x009 busy)
      (fun t => t.link.idle && (t.node 0).state == .probing && t.evq.records == [Record.cleared]) = true := by
  decide +kernel

/-- SOFT_RESET acts at the end of its transfer (R179); the straps it samples are free (log entry 2). -/
theorem test_softReset :
    answers .softReset (writing 0x009 busy)
      (fun t => !t.link.idle && (after .transferEnd t).power == .initializing .softReset 25 &&
        (after .transferEnd t).link.idle) = true := by
  decide +kernel

/-- UNKNOWN_COMMAND (R178). -/
theorem test_unknownCommand :
    answers (.unknownCommand 0x04) (writing 0x009 State.reset)
      (fun t => t.cmd.status == .unknown && t.err.code == some .cmdUnknown) = true := by decide +kernel

/-! ## Resets, timers and pins -/

/-- DEVICE_RESET, DEVICE_RESET_END and INIT_PERIOD_END in order: the RESET record names the RESET# pin and ATTN# goes low
(R163, R180). -/
theorem test_deviceReset :
    answers .initPeriodEnd (after (.deviceResetEnd 3) (after (.deviceReset .resetPin) busy))
      (fun t => t.evq.records == [Record.ofReset .resetPin] && t.attnLow && t.port.target == 0x5B) = true := by
  decide +kernel

/-- CYCLE_TIMER_EXPIRY reloads the timer and starts a cycle (R69). -/
theorem test_cycleTimerExpiry :
    answers .cycleTimerExpiry
      (State.reset.modEngine fun g => { g with state := .waiting, timer := some 3, cycle := 0xFFFF })
      (fun t => t.engine.timer == some 100 && t.engine.cycle == 0) = true := by decide +kernel

/-- SYNC_INPUT_EDGE of the other polarity has no effect (R70). -/
theorem test_syncInputEdge :
    answers (.syncInputEdge .falling) (State.reset.modEngine fun g => { g with state := .waiting, source := .sync })
      (fun t => t.engine.cycle == 0) = true ∧
    answers (.syncInputEdge .rising) (State.reset.modEngine fun g => { g with state := .waiting, source := .sync })
      (fun t => t.engine.cycle == 1) = true := by decide +kernel

/-- ATTN_DELAY_EXPIRY raises EVQ_READY by age (R166). -/
theorem test_attnDelayExpiry :
    answers .attnDelayExpiry { State.reset with attn := { level := 32, delay := 10, mask := 1 } }
      (fun t => t.attnLow && t.evq.headAge == 10) = true := by decide +kernel

/-- An idle step is 10 µs: the twenty-fifth ends the initialization period (R180). -/
theorem test_idleStep :
    (match step (State.atReset (.initializing .powerOn 1) AdrPins.reset []) with
      | .next t => t.power == .running && t.attnLow
      | _ => false) = true := by decide +kernel

/-! ## Witnesses -/

/-- A step with a command waiting, one with none, and a sound state: for the statements about every step. -/
theorem witness_step :
    (State.reset.sound = true ∧ ∃ t, step State.reset = .next t) ∧
    (({ busy with pending := [.alloc] } : State).pending = .alloc :: [] ∧
      ({ busy with pending := [.alloc] } : State).sound = true ∧ ∃ t, step { busy with pending := [.alloc] } = .next t) ∧
    (State.atReset (.held .powerOn) AdrPins.reset []).heldAtReset = true ∧
    (State.atReset (.initializing .powerOn 1) AdrPins.reset []).sound = true := by
  refine ⟨⟨by decide +kernel, _, rfl⟩, ⟨rfl, by decide +kernel, _, rfl⟩, by decide +kernel, by decide +kernel⟩

/-- `IdleStepIsClockTick`: no timer, a timer with 2 and with 1 to go; a head record with its millisecond going on and over; a
select line that waits, and one that is low; an initialization period with 2 and with 1 to go, and a device reset. -/
theorem witness_IdleStepIsClockTick :
    let quiet (s : State) : Prop := s.pending = [] ∧ s.port.readDue = false ∧ s.link.retryWaits = false
    let timed (k : Nat) : State := State.reset.modEngine fun g => { g with timer := some k }
    let aged (k : Nat) : State := State.reset.modEvq fun q => { q with headSub := k }
    let init (k : Nat) : State := State.atReset (.initializing .powerOn k) AdrPins.reset []
    let held : State := State.atReset (.held .powerOn) AdrPins.reset []
    (quiet State.reset ∧ State.reset.power = .running ∧ State.reset.engine.timer = none ∧ State.reset.evq.records ≠ []) ∧
    (quiet (timed 2) ∧ (timed 2).engine.timer = some 2 ∧ quiet (timed 1) ∧ (timed 1).engine.timer = some 1) ∧
    (quiet (aged 98) ∧ (aged 98).evq.headSub + 1 < 100 ∧ quiet (aged 99) ∧ ¬ (aged 99).evq.headSub + 1 < 100) ∧
    (quiet handedOver ∧ handedOver.sdoRest = true ∧ quiet busy ∧
      busy.sdoRest = false) ∧
    (quiet (init 2) ∧ (init 2).power = .initializing .powerOn 2 ∧ (init 2).engine.timer = none ∧ quiet (init 1) ∧
      (init 1).power = .initializing .powerOn 1) ∧
    (quiet held ∧ held.power = .held .powerOn ∧ held.engine.timer = none ∧ held.evq.records = []) := by decide +kernel

/-- `SelectAssertDrivesLine`, `RetryFollowsAttempt`: no exchange, one whose line is still high, and one in flight whose
silent node is retried, for a CYCLIC exchange and for a transaction's; a retry that waits. -/
theorem witness_exchange :
    let request := (entryIn .active none online).startWork (.txn 0) .ident 0
    (∃ w x, busy.link.work = some w ∧ w.phase = .inFlight x ∧ x.selected = true ∧ busy.port.readDue = false ∧
      (x.complete w.attempt []).outcome ≠ .ok ∧ (x.complete w.attempt []).outcome ≠ .refused ∧
      w.attempt ≤ busy.engine.retryLimit.toNat ∧ w.suppressed = false ∧ busy.engine.state ≠ .draining) ∧
    (∃ w x, request.link.work = some w ∧ w.phase = .inFlight x ∧ w.cls = .txn 0 ∧ x.selected = true ∧
      request.port.readDue = false ∧ (x.complete w.attempt []).outcome = .noReply ∧
      w.attempt ≤ request.engine.retryLimit.toNat ∧ w.suppressed = false ∧ request.engine.state ≠ .draining) ∧
    (∃ w, (retryWaits busy).link.work = some w ∧ w.phase = .retryPending silent ∧
      (retryWaits busy).engine.state ≠ .draining) ∧
    State.reset.link.work = none ∧
    (∃ w x, handedOver.link.work = some w ∧ w.phase = .inFlight x ∧ x.selected = false ∧
      handedOver.port.readDue = false) := by
  exact ⟨⟨_, _, rfl, rfl, by decide +kernel⟩, ⟨_, _, rfl, rfl, rfl, by decide +kernel⟩, ⟨_, rfl, by decide +kernel⟩, rfl,
    _, _, rfl, rfl, rfl, rfl⟩

/-- `CyclicOutcomeEvaluated`: final outcomes OK, BUSY, REFUSED and NO_REPLY of a sound state, with the mask of changed bytes
of each image (no direction is selected, so no byte has moved); with each node command waiting; and in DRAINING. -/
theorem witness_CyclicOutcomeEvaluated :
    let told (c : NodeCmd) : State := lastTry.modLink fun l => { l with work := l.work.map fun w => { w with nodeCmd := some c } }
    let drained := (cyclingBusy.assertSelect.suppress).modEngine fun g => { g with state := .draining, dropped := 2 }
    (lastTry.sound = true ∧ lastTry.port.readDue = false ∧
      ∃ w x, lastTry.link.work = some w ∧ w.phase = .inFlight x ∧ x.selected = true ∧ w.op = .cyclic ∧
        w.suppressed = true ∧ (x.complete w.attempt (framed [0x60, 1])).outcome = .ok ∧
        (x.complete w.attempt (framed [0x68, 1])).outcome = .busy ∧
        (x.complete w.attempt (framed [0x20, 1])).outcome = .refused ∧ (x.complete w.attempt []).outcome = .noReply) ∧
    (∀ i : ByteIx, (0 : Byte).getLsbD i.val = false ∧ ∀ k : Fin 8,
      (lastTry.node 0).rise[i].getLsbD k.val = false ∧ (lastTry.node 0).fall[i].getLsbD k.val = false) ∧
    (∀ c ∈ [NodeCmd.disable, .reprobe], (told c).sound = true ∧ (told c).port.readDue = false ∧
      (told c).link.exchange.any (·.selected) = true) ∧
    (drained.sound = true ∧ drained.port.readDue = false ∧ drained.engine.state = .draining ∧
      drained.link.exchange.any (·.selected) = true ∧ drained.link.slotWork = true) := by
  exact ⟨⟨by decide +kernel, rfl, _, _, rfl, rfl, by decide +kernel⟩, by decide +kernel, by decide +kernel, by decide +kernel⟩

/-- `ProbeOutcomeEvaluated`: final outcomes OK, with a reply that agrees and one that does not, BUSY and NO_REPLY; and with
each node command waiting. -/
theorem witness_ProbeOutcomeEvaluated :
    let told (c : NodeCmd) : State := probe.modLink fun l => { l with work := l.work.map fun w => { w with nodeCmd := some c } }
    (probe.sound = true ∧ probe.port.readDue = false ∧
      ∃ w x, probe.link.work = some w ∧ w.phase = .inFlight x ∧ x.selected = true ∧ w.op = .ident ∧ w.cls = .gapProbe ∧
        w.nodeCmd = none ∧ w.suppressed = true ∧ (x.complete w.attempt (framed [0x40, 9, 2, 1])).outcome = .ok ∧
        (x.complete w.attempt (framed [0x40, 9, 2, 2])).outcome = .ok ∧
        (x.complete w.attempt (framed [0x48, 9, 2, 1])).outcome = .busy ∧ (x.complete w.attempt []).outcome = .noReply) ∧
    (∀ c ∈ [NodeCmd.disable, .reprobe], (told c).sound = true ∧ (told c).port.readDue = false ∧
      (told c).link.exchange.any (·.selected) = true) := by
  exact ⟨⟨by decide +kernel, rfl, _, _, rfl, rfl, by decide +kernel⟩, by decide +kernel⟩

/-- `TransactionOutcomeEndsEntry`: outcomes OK and NO_REPLY of the work item of an ACTIVE entry; and with each node command
waiting and its cancel mark set. -/
theorem witness_TransactionOutcomeEndsEntry :
    let told (c : NodeCmd) : State :=
      (txnBusy.modLink fun l => { l with work := l.work.map fun w => { w with nodeCmd := some c } }).modTxn 0
        fun t => { t with cancelMark := true }
    (txnBusy.sound = true ∧ txnBusy.port.readDue = false ∧
      ∃ w x, txnBusy.link.work = some w ∧ w.phase = .inFlight x ∧ x.selected = true ∧ w.cls = .txn 0 ∧ w.suppressed = true ∧
        w.nodeCmd = none ∧ (x.complete w.attempt (framed [0x40, 9, 2, 1])).outcome = .ok ∧
        (x.complete w.attempt []).outcome = .noReply) ∧
    (∀ c ∈ [NodeCmd.disable, .reprobe], (told c).sound = true ∧ (told c).port.readDue = false ∧
      (told c).link.exchange.any (·.selected) = true) := by
  exact ⟨⟨by decide +kernel, rfl, _, _, rfl, rfl, by decide +kernel⟩, by decide +kernel⟩

/-- `ChoiceFollowsOrder`: each state of the engine with a class that claims the link, the first of its kind; a request whose
node is not of class CYCLIC, in STOPPED and admitted in CYCLING. -/
theorem witness_ChoiceFollowsOrder :
    let due (s : State) : State := s.modNode 0 fun x => { x with due := true }
    let slotted (s : State) : State :=
      { s with slots := s.slots.set 0 ⟨0x80, 0x00⟩, engine := { s.engine with latchedLen := 1 } }
    let waits (s : State) : State := { (entryIn .queued none s) with order := [0] }
    ((engineIn .draining online).link.work = none ∧ (engineIn .draining online).engine.state = .draining) ∧
    ((due online).link.prev ≠ .urgent ∧ ((due online).node 0).due = true ∧ ((due online).node 0).state = .online ∧
      (due online).order = []) ∧
    ((engineIn .cycling (waits online)).order = [0] ∧ (engineIn .cycling (waits online)).link.prev = .none ∧
      ((engineIn .cycling (waits online)).modEngine fun g => { g with linkMode := .txnFirst }).engine.linkMode = .txnFirst) ∧
    ((slotted (engineIn .cycling online)).slots[0].enabled = true ∧
      (slotted (engineIn .cycling online)).engine.cycle.toNat % (slotted (engineIn .cycling online)).slots[0].divisor =
        (slotted (engineIn .cycling online)).slots[0].phase ∧ (slotted (engineIn .cycling online)).order = [] ∧
      ((slotted (engineIn .cycling probing)).node 0).state = .probing) ∧
    ((engineIn .waiting probing).engine.state = .waiting ∧ ((engineIn .waiting probing).node 0).gapMark = false ∧
      (engineIn .waiting probing).engine.latchedLen = 0) ∧
    (State.reset.engine.state = .stopped ∧ State.reset.order = [] ∧ ∀ n, (State.reset.node n).due = false) ∧
    ((waits probing).link.work = none ∧ (waits probing).engine.state = .stopped ∧ (waits probing).order = [0] ∧
      (∀ n, ((waits probing).node n).due = false) ∧ ((waits probing).node ((waits probing).txn 0).nodeIx).state = .probing) ∧
    (((engineIn .cycling (waits probing)).modEngine fun g => { g with linkMode := .txnFirst }).link.work = none ∧
      (engineIn .cycling (waits probing)).order = [0]) := by
  decide +kernel

/-- `CycleEndReportsAndWaits`: no slot within the latched length, with and without dropped starts; a due flag and a request
held back because the previous work was urgent, a request under SCAN_FIRST, and a due flag of a node that is not CYCLIC. -/
theorem witness_CycleEndReportsAndWaits :
    let s := engineIn .cycling State.reset
    let due (u : State) : State := u.modNode 0 fun x => { x with due := true }
    let asked (u : State) : State := { entryIn .queued none u with order := [0] }
    let held := (due (asked (engineIn .cycling online))).modLink fun l => { l with prev := .urgent }
    let scanFirst := (asked s).modEngine fun g => { g with linkMode := .scanFirst }
    (s.engine.state = .cycling ∧ (∀ n, (s.node n).due = false) ∧ s.order = [] ∧ s.engine.latchedLen = 0 ∧
      s.engine.dropped = 0 ∧ (s.modEngine fun g => { g with dropped := 1 }).engine.dropped = 1) ∧
    (held.engine.state = .cycling ∧ held.link.prev = .urgent ∧ (held.node 0).due = true ∧ (held.node 0).state = .online ∧
      held.order ≠ [] ∧ held.engine.linkMode = .interleave ∧ held.engine.latchedLen = 0) ∧
    (scanFirst.engine.state = .cycling ∧ (∀ n, (scanFirst.node n).due = false) ∧ scanFirst.order ≠ [] ∧
      scanFirst.engine.linkMode = .scanFirst ∧ scanFirst.engine.latchedLen = 0) ∧
    ((due (engineIn .cycling probing)).engine.state = .cycling ∧ ((due (engineIn .cycling probing)).node 0).due = true ∧
      ((due (engineIn .cycling probing)).node 0).state = .probing) := by decide +kernel

/-- `StoreDetectsChanges`: bit 0 of byte 0 rises under its mask, so the mask of changed bytes is 0x01. -/
theorem witness_StoreDetectsChanges :
    let x := ((online.modNode 0 fun x => { x with rise := x.rise.set 0 0x01 }).node 0)
    let image : Vector Byte 8 := tabulate 8 fun i => [0x01].getD i.val 0
    ∀ i : ByteIx, (0x01 : Byte).getLsbD i.val = true ↔ ∃ k : Fin 8,
      (x.input[i].getLsbD k.val = false ∧ image[i].getLsbD k.val = true ∧ x.rise[i].getLsbD k.val = true) ∨
      (x.input[i].getLsbD k.val = true ∧ image[i].getLsbD k.val = false ∧ x.fall[i].getLsbD k.val = true) := by
  decide +kernel

/-- `AddressAndPointerBytes`: a byte for the part, one for another and one during a reset, in IDLE; each pointer phase. -/
theorem witness_AddressAndPointerBytes :
    let high := after (.addressByte 0xB0) State.reset
    let low := after (.pointerHighByte 0xFF) high
    (State.reset.port.readDue = false ∧ State.reset.port.phase = .idle ∧ State.reset.power = .running ∧
      (0xB1 : Byte).toNat / 2 = State.reset.port.target.toNat ∧ (0xB2 : Byte).toNat / 2 ≠ State.reset.port.target.toNat) ∧
    (State.atReset (.held .powerOn) AdrPins.reset []).power ≠ .running ∧
    (high.port.readDue = false ∧ high.port.phase = .pointerHigh) ∧
    (low.port.readDue = false ∧ low.port.phase = .pointerLow ∧ low.port.heldHigh = some 0xFF) := by decide +kernel

/-- `DataByteAcknowledged`: two rows that are the same byte, at the last address and at a port; outside a write transfer. -/
theorem witness_DataByteAcknowledged :
    ((Instr.registerWrite 1).sentByte = some 1 ∧ Instr.startScan.sentByte = some 1) ∧
    (∀ a ∈ [0x7FF, 0x009, 0x020, 0x038], (writing a busy).port.readDue = false ∧ (writing a busy).port.phase = .writeData) ∧
    State.reset.port.phase = .idle ∧ (reading 0 busy).port.phase = .readData ∧
    (after .hostNotAcknowledge (reading 0 busy)).port.phase = .readDone := by decide +kernel

/-- `TransferReleasesWhatItHeld`: a first byte that is due, each read phase, a write transfer with staging, and IDLE. -/
theorem witness_TransferReleasesWhatItHeld :
    let due := after (.addressByte 0xB1) State.reset
    let staged := after (.outputWrite 1) (writing 0x300 State.reset)
    (Instr.transferEnd.asksByte = false ∧ Instr.evqDataRead.asksByte = true ∧ due.port.readDue = true ∧
      due.port.phase = .readData ∧ due.link.work = none ∧ ∃ t, exec .evqDataRead due = .next t) ∧
    ((reading 0 State.reset).port.readDue = false ∧ (reading 0 State.reset).port.phase = .readData) ∧
    ((after .hostNotAcknowledge (reading 0 State.reset)).port.phase = .readDone) ∧
    (staged.port.phase ≠ .idle ∧ staged.port.softMark = false ∧ staged.port.staging ≠ []) ∧
    State.reset.port.phase = .idle := by
  exact ⟨⟨rfl, rfl, by decide +kernel, by decide +kernel, by decide +kernel, _, rfl⟩, by decide +kernel⟩

/-- `OutputWriteIsStaged`, `OutputReadIsCommitted`, `SnapshotIsTakenOnce`: the first and the last byte of each window. -/
theorem witness_windows :
    (writing 0x300 busy).writingAt (BitVec.ofNat 11 (0x300 + 8 * (0 : NodeIx).val + (0 : ByteIx).val)) ∧
    (writing 0x37F busy).writingAt (BitVec.ofNat 11 (0x300 + 8 * (15 : NodeIx).val + (7 : ByteIx).val)) ∧
    (reading 0x37F busy).readingAt (BitVec.ofNat 11 (0x300 + 8 * (15 : NodeIx).val + (7 : ByteIx).val)) ∧
    (reading 0x47F busy).readingAt (BitVec.ofNat 11 (0x400 + 8 * (15 : NodeIx).val + (7 : ByteIx).val)) ∧
    (reading 0x200 busy).readingAt (BitVec.ofNat 11 (0x200 + 8 * (0 : NodeIx).val + (0 : ByteIx).val)) ∧
    (reading 0x200 busy).port.snapshot = none ∧ (after .snapshotRead (reading 0x200 busy)).port.snapshot.isSome = true ∧
    (∃ t, exec .transferEnd (reading 0x37F busy) = .next t) := by
  exact ⟨by decide +kernel, by decide +kernel, by decide +kernel, by decide +kernel, by decide +kernel, rfl,
    by decide +kernel, _, rfl⟩

/-- `CommitReplacesOutputs`: each phase of a write transfer, on a busy link; and on an idle one, with REFRESH_ON_WRITE set for
the ONLINE node 0 and without. -/
theorem witness_CommitReplacesOutputs :
    let staged := after (.outputWrite 1) (writing 0x300 busy)
    let quiet := after (.outputWrite 1) (writing 0x300 online)
    let claim := after (.outputWrite 1) (writing 0x300 (online.modNode 0 fun x => { x with options := 1 }))
    let high := after (.addressByte 0xB0) busy
    (staged.port.readDue = false ∧ staged.port.phase = .writeData ∧ staged.port.softMark = false ∧
      staged.link.work ≠ none) ∧ high.port.phase = .pointerHigh ∧
      (after (.pointerHighByte 0) high).port.phase = .pointerLow ∧
    (quiet.port.readDue = false ∧ quiet.port.phase = .writeData ∧ quiet.port.softMark = false ∧ quiet.link.work = none ∧
      ∀ n, (quiet.node n).options.getLsbD 0 = false) ∧
    (claim.port.readDue = false ∧ claim.port.phase = .writeData ∧ claim.port.softMark = false ∧ claim.link.work = none ∧
      (claim.node 0).state = .online ∧ (claim.node 0).options.getLsbD 0 = true ∧ 0 < (claim.node 0).outLen.toNat ∧
      (claim.node 0).output[0] ≠ (claim.port.staging.read 0).getD (claim.node 0).output[0]) := by decide +kernel

/-- `CountersAreCaptured`: each of the four bytes. -/
theorem witness_CountersAreCaptured :
    (reading 0x01A busy).readingAt 0x01A ∧ (reading 0x01B busy).readingAt 0x01B ∧ (reading 0x022 busy).readingAt 0x022 ∧
    (reading 0x023 busy).readingAt 0x023 := by decide +kernel

/-- `DeviceResetSequence`, `SoftResetActsAtTransferEnd`. -/
theorem witness_resets :
    (State.atReset (.held .resetPin) ⟨2, 0⟩ []).power = .held .resetPin ∧
    (State.atReset (.held .resetPin) ⟨2, 0⟩ []).heldAtReset = true ∧
    (State.atReset (.initializing .softReset 25) ⟨2, 1⟩ []).power = .initializing .softReset 25 ∧
    (State.atReset (.initializing .softReset 25) ⟨2, 1⟩ []).heldAtReset = true ∧
    (writing 0x009 busy).writingAt 0x009 ∧ (after .softReset (writing 0x009 busy)).port.softMark = true ∧
    (after .softReset (writing 0x009 busy)).port.phase = .writeData ∧
    (after .softReset (writing 0x009 busy)).port.readDue = false := by decide +kernel

/-- The register statements: each address they name, written or read, with the boundary offsets of its area. -/
theorem witness_registers :
    (∀ a ∈ [0x000, 0x001, 0x002, 0x008, 0x00A, 0x010, 0x011, 0x012, 0x013, 0x014, 0x015, 0x016, 0x017, 0x018, 0x020, 0x024,
        0x026, 0x027, 0x028, 0x029, 0x02A, 0x033, 0x034, 0x038, 0x03C, 0x046, 0x106, 0x200, 0x27F, 0x400, 0x47F, 0x605, 0x60F,
        0x7FF], (writing a busy).writingAt (BitVec.ofNat 11 a)) ∧
    (∀ a ∈ [0x000, 0x001, 0x002, 0x013, 0x014, 0x700], (reading a busy).readingAt (BitVec.ofNat 11 a)) ∧
    (busy.engine.state = .stopped ∧ busy.evq.records ≠ [] ∧ (queued 0 busy).evq.records = [] ∧
      (queued 0 busy).evq.overflowed = false ∧ (newest (queued 0 busy)).evq.lost = 0) ∧
    (writing 0x05D State.reset).writingAt (BitVec.ofNat 11 (0x040 + 8 * (3 : ProfileIx).val + 5)) ∧
    (writing 0x1F5 State.reset).writingAt (BitVec.ofNat 11 (0x100 + 16 * (15 : NodeIx).val + 5)) ∧
    (writing 0x1F8 State.reset).writingAt (BitVec.ofNat 11 (0x108 + 16 * (15 : NodeIx).val)) ∧
    (writing 0x10A State.reset).writingAt (BitVec.ofNat 11 (0x100 + 16 * (0 : NodeIx).val + 10)) ∧
    (writing 0x1FD State.reset).writingAt (BitVec.ofNat 11 (0x100 + 16 * (15 : NodeIx).val + 13)) ∧
    (writing 0x5F7 State.reset).writingAt (BitVec.ofNat 11 (0x500 + 16 * (15 : NodeIx).val + (7 : ByteIx).val)) ∧
    (writing 0x5FF State.reset).writingAt (BitVec.ofNat 11 (0x508 + 16 * (15 : NodeIx).val + (7 : ByteIx).val)) ∧
    (reading 0x5F7 State.reset).readingAt (BitVec.ofNat 11 (0x500 + 16 * (15 : NodeIx).val + (7 : ByteIx).val)) ∧
    (reading 0x5FF State.reset).readingAt (BitVec.ofNat 11 (0x508 + 16 * (15 : NodeIx).val + (7 : ByteIx).val)) ∧
    (writing 0x2BF State.reset).writingAt (BitVec.ofNat 11 (0x280 + 2 * (31 : SlotIx).val + true.toNat)) ∧
    (writing 0x6FF State.reset).writingAt (BitVec.ofNat 11 (0x600 + 32 * (7 : TxnIx).val + 31)) ∧
    profileField 5 = some .turn ∧ txnField 31 = some (.rdata 7) := by decide +kernel

/-- `MaskBytesHeldAtOnce`: the first and the last address of each group that is read as it stands, with a first byte due and
without. -/
theorem witness_readBack :
    ∀ due ∈ [false, true], ∀ a ∈ [0x008, 0x03C, 0x040, 0x05D, 0x100, 0x1FD, 0x280, 0x2BF, 0x500, 0x5FF, 0x600, 0x6FF],
      ((reading a busy).modPort fun p => { p with readDue := due }).readingAt (BitVec.ofNat 11 a) ∧
      Instr.snapshotRead.asksByte = true := by decide +kernel

/-- `SlotWriteJudged`: in WAITING with an idle link, the write that disables slot 0, which alone names the PROBING node 0; a
write that leaves it enabled; and each boundary of a legal byte. -/
theorem witness_SlotWriteJudged :
    let s : State := engineIn .waiting { probing with slots := probing.slots.set 0 ⟨0x80, 0x00⟩ }
    let u : State := writing 0x280 (s.modEngine fun g => { g with latchedLen := 1 })
    (u.writingAt (BitVec.ofNat 11 (0x280 + 2 * (0 : SlotIx).val + false.toNat)) ∧ u.engine.state = .waiting ∧
      u.link.work = none ∧ (u.node 0).state = .probing ∧ (∀ n, n ≠ 0 → (u.node n).state = .disabled)) ∧
    (∀ j : SlotIx, j.val < u.engine.latchedLen → (u.slots.set 0 ⟨0x00, 0x00⟩)[j].enabled = true →
      (u.slots.set 0 ⟨0x00, 0x00⟩)[j].node ≠ 0) ∧
    ((0 : SlotIx).val < u.engine.latchedLen ∧ (u.slots.set 0 ⟨0x80, 0x00⟩)[(0 : SlotIx)].enabled = true ∧
      (u.slots.set 0 ⟨0x80, 0x00⟩)[(0 : SlotIx)].node = 0) ∧
    ((0x4F : Byte).toNat < 128 ∧ (0x4F : Byte).toNat / 16 ≤ 4 ∧ (0x4F : Byte).toNat % 16 < 2 ^ ((0x4F : Byte).toNat / 16)) ∧
    ((0x8F : Byte).toNat / 16 % 8 = 0 ∧ ¬ (0x9F : Byte).toNat / 16 % 8 = 0) := by decide +kernel

/-- `HostErrorCapture`: an empty and a full capture. -/
theorem witness_HostErrorCapture :
    ErrCapture.reset.flag = false ∧ (ErrCapture.reset.take .badValue 0x012).flag = true := by decide

/-- `StartScanStartsEngine`: refused in WAITING; STOPPED with a busy and with an idle link. -/
theorem witness_StartScanStartsEngine :
    let s (u : State) : State := writing 0x009 u
    ((s (engineIn .waiting online)).writingAt 0x009 ∧ (s (engineIn .waiting online)).engine.state ≠ .stopped) ∧
    ((s busy).writingAt 0x009 ∧ (s busy).engine.state = .stopped ∧ (s busy).link.work ≠ none ∧
      (s busy).engine.source = .timer) ∧
    ((s online).writingAt 0x009 ∧ (s online).engine.state = .stopped ∧ (s online).link.work = none) := by decide +kernel

/-- `StopScanStopsEngine`: refused in STOPPED; WAITING; CYCLING with an idle link, an attempt in flight, a retry waiting. -/
theorem witness_StopScanStopsEngine :
    let s (u : State) : State := writing 0x009 u
    let retried := s (retryWaits cyclingBusy)
    ((s online).writingAt 0x009 ∧ (s online).engine.state = .stopped) ∧
    ((s (engineIn .waiting online)).writingAt 0x009 ∧ (s (engineIn .waiting online)).engine.state = .waiting) ∧
    ((s (engineIn .cycling online)).writingAt 0x009 ∧ (s (engineIn .cycling online)).engine.state = .cycling ∧
      (s (engineIn .cycling online)).link.work = none) ∧
    ((s cyclingBusy).writingAt 0x009 ∧ (s cyclingBusy).engine.state = .cycling ∧
      ∃ w x, (s cyclingBusy).link.work = some w ∧ w.phase = .inFlight x) ∧
    (retried.writingAt 0x009 ∧ retried.engine.state = .cycling ∧
      ∃ w, retried.link.work = some w ∧ w.phase = .retryPending silent) := by
  exact ⟨by decide +kernel, by decide +kernel, by decide +kernel, ⟨by decide +kernel, rfl, _, _, rfl, rfl⟩,
    by decide +kernel, rfl, _, rfl, rfl⟩

/-- `StopScanStopsEngine`, `NodeDisableTakesOutOfService`, `NodeReprobeReturnsToProbing`, `CancelActsOnEntry`: a sound state
with a retry pending, for work of each class. -/
theorem witness_withdrawal :
    let pending (a : Nat) (u : State) (c : WorkClass) : Prop :=
      (writing a (unanswered u)).sound = true ∧ (writing a (unanswered u)).writingAt (BitVec.ofNat 11 a) ∧
      (writing a (unanswered u)).cmd.arg.toNat = (0 : NodeIx).val ∧ ∃ w r,
        (writing a (unanswered u)).link.work = some w ∧ w.cls = c ∧ w.node = 0 ∧ w.phase = .retryPending r
    let request := (entryIn .active none online).startWork (.txn 0) .ident 0
    pending 0x009 busy .urgent ∧
    (pending 0x009 cyclingBusy .slot ∧ (unanswered cyclingBusy).engine.state = .cycling) ∧
    pending 0x009 ((engineIn .waiting probing).startWork .gapProbe .ident 0) .gapProbe ∧
    pending 0x009 request (.txn 0) ∧ pending 0x03A request (.txn 0) := by
  exact ⟨⟨by decide +kernel, by decide +kernel, by decide +kernel, _, _, rfl, rfl, rfl, rfl⟩,
    ⟨⟨by decide +kernel, by decide +kernel, by decide +kernel, _, _, rfl, rfl, rfl, rfl⟩, by decide +kernel⟩,
    ⟨by decide +kernel, by decide +kernel, by decide +kernel, _, _, rfl, rfl, rfl, rfl⟩,
    ⟨by decide +kernel, by decide +kernel, by decide +kernel, _, _, rfl, rfl, rfl, rfl⟩,
    ⟨by decide +kernel, by decide +kernel, by decide +kernel, _, _, rfl, rfl, rfl, rfl⟩⟩

/-- `CycleStartBeginsCycle`, `OverrunIsCounted`: each source in WAITING and in CYCLING, with a busy link, and in WAITING with an
idle one; an edge with no effect; a TRIGGER_CYCLE refused in STOPPED. -/
theorem witness_cycleStart :
    let timed (u : State) : State := u.modEngine fun g => { g with source := .timer, timer := some 1 }
    let synced (u : State) : State := u.modEngine fun g => { g with source := .sync }
    let gap := engineIn .waiting busy
    (gap.port.readDue = false ∧ gap.engine.state = .waiting ∧ gap.link.work ≠ none) ∧
    ((engineIn .waiting online).port.readDue = false ∧ (engineIn .waiting online).engine.state = .waiting ∧
      (engineIn .waiting online).link.work = none) ∧
    ((timed gap).port.readDue = false ∧ (timed gap).engine.state = .waiting ∧ (timed gap).engine.timer ≠ none) ∧
    ((synced gap).port.readDue = false ∧ (synced gap).engine.state = .waiting ∧ (synced gap).engine.source = .sync ∧
      (synced gap).engine.syncEdge = .rising) ∧
    ((writing 0x009 gap).port.readDue = false ∧ (writing 0x009 gap).engine.state = .waiting ∧
      (writing 0x009 gap).writingAt 0x009 ∧ (writing 0x009 gap).engine.source = .host) ∧
    ((timed cyclingBusy).port.readDue = false ∧ (timed cyclingBusy).engine.state = .cycling ∧
      (timed cyclingBusy).engine.timer ≠ none) ∧
    ((synced cyclingBusy).port.readDue = false ∧ (synced cyclingBusy).engine.state = .cycling ∧
      (synced cyclingBusy).engine.source = .sync ∧ (synced cyclingBusy).engine.syncEdge = .rising) ∧
    ((writing 0x009 cyclingBusy).port.readDue = false ∧ (writing 0x009 cyclingBusy).engine.state = .cycling ∧
      (writing 0x009 cyclingBusy).writingAt 0x009 ∧ (writing 0x009 cyclingBusy).engine.source = .host) ∧
    (busy.port.readDue = false ∧ busy.engine.source ≠ .sync) ∧
    ((writing 0x009 busy).port.readDue = false ∧ (writing 0x009 busy).writingAt 0x009 ∧
      (writing 0x009 busy).engine.state = .stopped) := by decide +kernel

/-- `UnknownAndBadArgument`: a code with no command, and CMD_ARG 16. -/
theorem witness_UnknownAndBadArgument :
    (writing 0x009 (arg 16 busy)).writingAt 0x009 ∧
    (0x04 : Byte) ∉ ([0x01, 0x02, 0x03, 0x10, 0x11, 0x12, 0x20, 0x30, 0x5A] : List Byte) ∧
    15 < (writing 0x009 (arg 16 busy)).cmd.arg.toNat := by decide +kernel

/-- `NodeEnableTakesIntoService`: refused in service; node 15 DISABLED with a length above 8, with an address in service,
and legal, outside WAITING and in it. -/
theorem witness_NodeEnableTakesIntoService :
    let s : State := writing 0x009 (arg 15 State.reset)
    let long := s.modNode 15 fun x => { x with outLen := 9 }
    let twin : State := writing 0x009 (arg 15 online)
    ((writing 0x009 online).writingAt 0x009 ∧ (writing 0x009 online).cmd.arg.toNat = (0 : NodeIx).val ∧
      ((writing 0x009 online).node 0).state ≠ .disabled) ∧
    (long.writingAt 0x009 ∧ long.cmd.arg.toNat = (15 : NodeIx).val ∧ (long.node 15).state = .disabled ∧
      8 < (long.node 15).outLen.toNat) ∧
    (twin.writingAt 0x009 ∧ twin.cmd.arg.toNat = (15 : NodeIx).val ∧ (twin.node 15).state = .disabled ∧
      ∃ m, m ≠ 15 ∧ (twin.node m).state ≠ .disabled ∧ (twin.node m).segment = (twin.node 15).segment ∧
        (twin.node m).address = (twin.node 15).address) ∧
    (s.writingAt 0x009 ∧ s.cmd.arg.toNat = (15 : NodeIx).val ∧ (s.node 15).state = .disabled ∧
      (s.node 15).outLen.toNat ≤ 8 ∧ (s.node 15).inLen.toNat ≤ 8 ∧ (∀ m, (s.node m).state = .disabled) ∧
      s.engine.state ≠ .waiting) ∧
    ((engineIn .waiting s).writingAt 0x009 ∧ ((engineIn .waiting s).node 15).state = .disabled ∧
      (engineIn .waiting s).engine.state = .waiting ∧ (engineIn .waiting s).link.work = none ∧
      ((engineIn .waiting s).node 15).gapMark = false ∧ (engineIn .waiting s).engine.latchedLen = 0 ∧
      ((s.modNode 15 fun x => { x with gapMark := true }).node 15).gapMark = true) := by decide +kernel

/-- `NodeDisableTakesOutOfService`, `NodeReprobeReturnsToProbing`: node 0 DISABLED, idle, with its work in flight, with its
retry waiting and with a NODE_DISABLE pending. -/
theorem witness_nodeCommands :
    let s (u : State) : State := writing 0x009 u
    let disabling := s (after .nodeDisable (s busy))
    let aimed (u : State) : Prop := u.writingAt 0x009 ∧ u.cmd.arg.toNat = (0 : NodeIx).val
    (aimed (s State.reset) ∧ ((s State.reset).node 0).state = .disabled) ∧
    (aimed (s online) ∧ ((s online).node 0).state ≠ .disabled ∧ (s online).link.work = none ∧
      (s online).engine.state ≠ .waiting) ∧
    (aimed (s (engineIn .waiting online)) ∧ (engineIn .waiting online).engine.state = .waiting ∧
      ((engineIn .waiting online).node 0).gapMark = false ∧ (engineIn .waiting online).engine.latchedLen = 0 ∧
      ((online.modNode 0 fun x => { x with gapMark := true }).node 0).gapMark = true) ∧
    (aimed (s busy) ∧ ((s busy).node 0).state ≠ .disabled ∧ ∃ w x, (s busy).link.work = some w ∧ w.node = 0 ∧
      w.phase = .inFlight x ∧ w.nodeCmd ≠ some .disable) ∧
    (aimed (s (retryWaits busy)) ∧ ((s (retryWaits busy)).node 0).state ≠ .disabled ∧
      ∃ w, (s (retryWaits busy)).link.work = some w ∧ w.node = 0 ∧ w.phase = .retryPending silent ∧
        w.nodeCmd ≠ some .disable) ∧
    (aimed disabling ∧ ∃ w, disabling.link.work = some w ∧ w.node = 0 ∧ w.nodeCmd = some .disable) := by
  exact ⟨by decide +kernel, by decide +kernel, by decide +kernel,
    ⟨by decide +kernel, by decide +kernel, _, _, rfl, rfl, rfl, by decide +kernel⟩,
    ⟨by decide +kernel, by decide +kernel, _, rfl, rfl, rfl, by decide +kernel⟩, by decide +kernel, _, rfl, rfl, rfl⟩

/-- `ScanClearClearsEveryBlock`: an exchange in flight whose line was driven and one whose line was not yet; a node that is
DISABLED, one being disabled, and one in service. -/
theorem witness_ScanClearClearsEveryBlock :
    let disabling := writing 0x009 (after .nodeDisable (writing 0x009 busy))
    ((writing 0x009 busy).writingAt 0x009 ∧ (writing 0x009 busy).link.exchange.any (·.selected) = true ∧
      ((writing 0x009 busy).node 1).state = .disabled ∧ ((writing 0x009 busy).node 0).state = .online) ∧
    ((writing 0x009 handedOver).writingAt 0x009 ∧ (writing 0x009 handedOver).link.exchange.any (·.selected) = false) ∧
    (disabling.writingAt 0x009 ∧ ∃ w, disabling.link.work = some w ∧ w.node = 0 ∧ w.nodeCmd = some .disable ∧
      (disabling.node 0).state ≠ .disabled) := by
  exact ⟨by decide +kernel, by decide +kernel, by decide +kernel, _, rfl, rfl, rfl, by decide +kernel⟩

/-- `AllocTakesLowestFree`: entry 0 FREE, the first FREE entry behind one in use, and no FREE entry. -/
theorem witness_AllocTakesLowestFree :
    let s (u : State) : State := reading 0x038 u
    let full : State := s { State.reset with txns := tabMap (fun t => { t with state := .done }) State.reset.txns }
    let second := s (entryIn .queued none busy)
    ((s busy).readingAt 0x038 ∧ ((s busy).txn 0).state = .free) ∧
    (second.readingAt 0x038 ∧ (second.txn 1).state = .free ∧ ∀ k, k < (1 : TxnIx) → (second.txn k).state ≠ .free) ∧
    (full.readingAt 0x038 ∧ ∀ e, (full.txn e).state ≠ .free) := by decide +kernel

/-- `SubmitQueuesRequest`: a wrong generation, bit 3 set, an entry not RESERVED; a node that is DISABLED; a legal entry on a
busy link; on an idle one with its node ONLINE, and with it PROBING. -/
theorem witness_SubmitQueuesRequest :
    let s (st : TxnState) (u : State) : State := writing 0x039 (entryIn st none u)
    let named (u : State) (h : Byte) : Prop := h.toNat / 8 % 2 = 0 ∧ h.toNat / 16 = (u.txn (entryOf h)).gen.toNat
    let quiet (u : State) : Prop := u.link.work = none ∧ u.engine.state = .stopped ∧ u.order = [] ∧
      ∀ n, (u.node n).due = false
    ((s .reserved busy).writingAt 0x039 ∧ ¬ named (s .reserved busy) 0x08 ∧ ¬ named (s .reserved busy) 0x10) ∧
    ((s .queued busy).writingAt 0x039 ∧ ((s .queued busy).txn 0).state ≠ .reserved) ∧
    ((s .reserved State.reset).writingAt 0x039 ∧ named (s .reserved State.reset) 0 ∧
      ((s .reserved State.reset).txn 0).state = .reserved ∧ ((s .reserved State.reset).node 0).state = .disabled) ∧
    ((s .reserved busy).writingAt 0x039 ∧ named (s .reserved busy) 0 ∧ ((s .reserved busy).txn 0).state = .reserved ∧
      ((s .reserved busy).txn 0).op = 3 ∧ ((s .reserved busy).txn 0).node = 0 ∧
      ((s .reserved busy).node 0).state ≠ .disabled ∧ (s .reserved busy).link.work ≠ none) ∧
    ((s .reserved online).writingAt 0x039 ∧ named (s .reserved online) 0 ∧
      ((s .reserved online).txn 0).state = .reserved ∧ ((s .reserved online).txn 0).op = 3 ∧
      ((s .reserved online).node 0).state = .online ∧ quiet (s .reserved online)) ∧
    (((s .reserved probing).node 0).state = .probing ∧ (s .reserved probing).writingAt 0x039 ∧
      quiet (s .reserved probing)) := by decide +kernel

/-- `CancelActsOnEntry`, `ReleaseFreesTerminalEntry`: a wrong handle, and each state of the entry under the right one; an
ACTIVE entry with its attempt in flight and with its retry waiting. -/
theorem witness_cancelRelease :
    let s (a : Nat) (st : TxnState) : State := writing a (entryIn st none busy)
    let named (u : State) (h : Byte) : Prop := h.toNat / 8 % 2 = 0 ∧ h.toNat / 16 = (u.txn (entryOf h)).gen.toNat
    let active : State := writing 0x03A txnBusy
    let retried : State := writing 0x03A (retryWaits txnBusy)
    (∀ st ∈ [TxnState.free, .reserved, .queued, .done, .failed, .cancelled],
      (s 0x03A st).writingAt 0x03A ∧ named (s 0x03A st) 0 ∧ ¬ named (s 0x03A st) 0x08 ∧ ((s 0x03A st).txn 0).state = st) ∧
    (∀ st ∈ [TxnState.free, .reserved, .queued, .active, .done, .failed, .cancelled],
      (s 0x03B st).writingAt 0x03B ∧ named (s 0x03B st) 0 ∧ ¬ named (s 0x03B st) 0x10 ∧ ((s 0x03B st).txn 0).state = st) ∧
    (active.writingAt 0x03A ∧ named active 0 ∧ (active.txn 0).state = .active ∧
      ∃ w x, active.link.work = some w ∧ w.cls = .txn 0 ∧ w.phase = .inFlight x) ∧
    (retried.writingAt 0x03A ∧ named retried 0 ∧ (retried.txn 0).state = .active ∧ (0 : TxnIx) ∉ retried.order ∧
      silent.outcome ≠ .ok ∧ ∃ w, retried.link.work = some w ∧ w.cls = .txn 0 ∧ w.phase = .retryPending silent) := by
  exact ⟨by decide +kernel, by decide +kernel, ⟨by decide +kernel, by decide +kernel, by decide +kernel, _, _, rfl, rfl, rfl⟩,
    by decide +kernel, by decide +kernel, by decide +kernel, by decide +kernel, by decide, _, rfl, rfl, rfl⟩

/-- `EventDisposal`: a masked kind, an overflowed queue, a merge target, an empty queue, one with room and one that is full,
under both policies, with the head open and not; an INPUT_CHANGE with no merge target, for want of a record of its node and
because that record is the open head. -/
theorem witness_EventDisposal :
    let on (s : State) (k : EventKind) : Bool := s.evq.kindEnable.getLsbD k.code.toNat
    let losing : State := (queued 32 State.reset).modEvq fun q => { q with overflowed := true, lost := 1 }
    (on State.reset .cycleDone = false ∧ EventKind.cycleDone ≠ .reset ∧ EventKind.cycleDone ≠ .txnEnd) ∧
    (on losing .inputChange = true ∧ losing.evq.policy = .keepOldest ∧ losing.evq.overflowed = true) ∧
    (on (queued 2 State.reset) .inputChange = true ∧ (queued 2 State.reset).evq.overflowed = false ∧
      (queued 2 State.reset).evq.records = [change] ++ change :: [] ∧ change.kind = .inputChange ∧ change.node = 0) ∧
    (on (queued 31 State.reset) .nodeState = true ∧ (queued 31 State.reset).evq.overflowed = false ∧
      (queued 31 State.reset).evq.records.length < 32 ∧ (queued 31 State.reset).evq.records ≠ []) ∧
    (on (queued 0 State.reset) .nodeState = true ∧ (queued 0 State.reset).evq.overflowed = false ∧
      (queued 0 State.reset).evq.records = []) ∧
    (on (queued 32 State.reset) .nodeState = true ∧ (queued 32 State.reset).evq.overflowed = false ∧
      32 ≤ (queued 32 State.reset).evq.records.length ∧ (queued 32 State.reset).evq.policy = .keepOldest) ∧
    (on (newest (queued 32 State.reset)) .nodeState = true ∧ (newest (queued 32 State.reset)).evq.policy = .keepNewest ∧
      (newest (queued 32 State.reset)).evq.records = change :: change :: List.replicate 30 change ∧
      (newest (queued 32 State.reset)).evq.headOpen = false ∧
      (newest (opened .stored 1 (queued 32 State.reset))).evq.headOpen = true) ∧
    (∀ r ∈ (queued 32 State.reset).evq.records, r.kind = .inputChange → r.node ≠ 1) ∧
    ((opened .stored 1 (queued 1 State.reset)).evq.headOpen = true ∧
      (opened .stored 1 (queued 1 State.reset)).evq.records.tail = [] ∧
      (opened .stored 1 (queued 1 State.reset)).evq.records ≠ []) := by decide +kernel

/-- `QueueReadReturnsItems`: no open item with a stored record, a report and EMPTY at the head. -/
theorem witness_QueueReadReturnsItems_begin :
    let s (u : State) : State := reading 0x020 u
    let lossy := s (newest (State.reset.modEvq fun q => { q with lost := 2 }))
    let none' := s (queued 0 State.reset)
    ((s busy).readingAt 0x020 ∧ (s busy).evq.reading = none ∧ (s busy).evq.records = Record.ofReset .powerOn :: [] ∧
      (s busy).evq.policy = .keepOldest) ∧
    (lossy.readingAt 0x020 ∧ lossy.evq.reading = none ∧ lossy.evq.sound = true ∧ 0 < lossy.evq.lost ∧
      lossy.evq.policy = .keepNewest) ∧
    (none'.readingAt 0x020 ∧ none'.evq.reading = none ∧ none'.evq.sound = true ∧ none'.evq.lost = 0 ∧
      none'.evq.records = []) := by decide +kernel

/-- `QueueReadReturnsItems`: each kind of open item at each of its bytes. -/
theorem witness_QueueReadReturnsItems_open (k : Fin 6) :
    let s (item : OpenItem) (u : State) : State := opened item k (reading 0x020 u)
    let lossy := newest (State.reset.modEvq fun q => { q with lost := 2 })
    ((s .stored busy).readingAt 0x020 ∧ (s .stored busy).evq.records = Record.ofReset .powerOn :: [] ∧
      (s .stored busy).evq.reading = some { item := .stored, next := k }) ∧
    ((s (.report 7 1) lossy).readingAt 0x020 ∧ (s (.report 7 1) lossy).evq.sound = true ∧
      (s (.report 7 1) lossy).evq.reading = some { item := .report 7 1, next := k }) ∧
    ((s (.empty 7) State.reset).readingAt 0x020 ∧
      (s (.empty 7) State.reset).evq.reading = some { item := .empty 7, next := k }) := by
  revert k
  decide +kernel

/-- `AttentionCauses`: a record younger than the delay. -/
theorem witness_AttentionCauses :
    let s : State := { State.reset with attn := { level := 32, delay := 255, mask := 3 } }
    s.port.readDue = false ∧ s.evq.records ≠ [] ∧ s.attn.delay ≠ 0 ∧ s.evq.headAge < s.attn.delay.toNat := by
  decide +kernel

end Sys2Proof.Tests
end

section
/-! SUPPORT. A data byte for a timing profile: which byte each field takes, what the write does locked, in range and out of
range (R13, R14), and the statement about the row that follows from it. -/

namespace Sys2Proof.Machine

/-! ## The fields of a profile -/

/-- A field lies at one of the first six offsets of the eight of its profile. -/
theorem profileField_offset_lt {k : Nat} {f : ProfileField} (h : profileField k = some f) : k < 8 := by
  unfold profileField at h
  split at h
  case h_7 => cases h
  all_goals decide

/-- The least value a profile field takes (R13). -/
def ProfileField.least (f : ProfileField) : Nat :=
  match f with
  | .setup => 1
  | .hold => 1
  | .turn => 1
  | _ => 0

/-- The greatest value a profile field takes (R13). -/
def ProfileField.most (f : ProfileField) : Nat :=
  match f with
  | .rate => 6
  | .mode => 3
  | .byteGap => 15
  | .turn => 4
  | _ => 16

/-- The legal values of a field are a range. -/
theorem ProfileField.legal_iff (f : ProfileField) (b : Byte) :
    f.legal b = true ↔ f.least ≤ b.toNat ∧ b.toNat ≤ f.most := by
  cases f <;> simp [ProfileField.legal, ProfileField.least, ProfileField.most]

/-! ## The write of a field -/

/-- The link is not idle while it has a work item, in flight or awaiting its retry (R14, R18). -/
theorem Link.not_idle_iff (l : Link) : (!l.idle) = true ↔ l.work ≠ none := by
  cases h : l.work <;> simp [Link.idle, h]

/-- The lock is judged first, and under an open lock the range decides between the field's new value and BAD_VALUE (R13,
R14). -/
theorem State.writeProfile_eq (s : State) (p : ProfileIx) (f : ProfileField) (b : Byte) :
    s.writeProfile p f b =
      if s.engine.state ≠ .stopped ∨ s.link.work ≠ none then s.raiseHere .profileLocked
      else if f.least ≤ b.toNat ∧ b.toNat ≤ f.most then
        s.modLink fun l => { l with profiles := l.profiles.set p (l.profiles[p].set f b) }
      else s.raiseHere .badValue := by
  simp only [State.writeProfile, Link.not_idle_iff, ProfileField.legal_iff]

/-- A byte at the address of a profile field is written to that field, whether it is taken or refused (R13, R172). -/
theorem exec_writing_profile {s : State} {p : ProfileIx} {k : Nat} {f : ProfileField} (b : Byte)
    (hk : profileField k = some f) (h : s.writingAt (BitVec.ofNat 11 (0x040 + 8 * p.val + k))) :
    exec (.registerWrite b) s = .next (State.handOverRetry ((s.writeProfile p f b).modPort Port.tookByte)) := by
  have hreg : regAt (BitVec.ofNat 11 (0x040 + 8 * p.val + k)) = .profile p f :=
    regAt_profile p ⟨k, profileField_offset_lt hk⟩ f hk
  rw [exec_writing rfl h, hreg]
  rfl

/-- Settles O39: the row is a write of the field at the pointer, which the lock and then the range decide. -/
theorem profileWriteLocked : Obligations.ProfileWriteLocked := by
  intro s p k f b hk hw least most
  rw [exec_writing_profile b hk hw, State.writeProfile_eq]
  congr 2
  by_cases hlock : s.engine.state ≠ .stopped ∨ s.link.work ≠ none
  · rw [if_pos hlock, if_pos hlock]
    rfl
  · rw [if_neg hlock, if_neg hlock]
    by_cases hrange : least ≤ b.toNat ∧ b.toNat ≤ most
    · rw [if_pos hrange, if_pos (show f.least ≤ b.toNat ∧ b.toNat ≤ f.most from hrange)]
      cases f <;> rfl
    · rw [if_neg hrange, if_neg (show ¬ (f.least ≤ b.toNat ∧ b.toNat ≤ f.most) from hrange)]
      rfl

end Sys2Proof.Machine
end

section
/-! SUPPORT. The Transaction Table as the host meets it: handles and their check, the request fields, ALLOC and RELEASE (R130
to R133, R144), and the statements about these rows that follow. -/

namespace Sys2Proof.Machine

/-! ## Handles -/

/-- A handle holds the generation in bits 7–4 and the index of its entry below (R130). -/
theorem handleOf_eq_ofNat (gen : BitVec 4) (e : TxnIx) : handleOf gen e = BitVec.ofNat 8 (16 * gen.toNat + e.val) := by
  have he : e.val < 2 ^ 4 := by omega
  have hor : gen.toNat <<< 4 ||| e.val = 16 * gen.toNat + e.val := by
    rw [← Nat.shiftLeft_add_eq_or_of_lt he, Nat.shiftLeft_eq, Nat.mul_comm]
  apply BitVec.eq_of_toNat_eq
  rw [handleOf, BitVec.toNat_append, BitVec.toNat_ofNat, BitVec.toNat_ofNat, Nat.mod_eq_of_lt he, hor,
    Nat.mod_eq_of_lt (by omega)]

/-- The handle check: bit 3 is clear and bits 7–4 are the generation of the entry named (R131). -/
theorem State.handleValid_iff (s : State) (h : Byte) :
    s.handleValid h = true ↔ h.toNat / 8 % 2 = 0 ∧ h.toNat / 16 = (s.txn (entryOf h)).gen.toNat := by
  have hbit : (!h.getLsbD 3) = true ↔ h.toNat / 8 % 2 = 0 := by
    rw [BitVec.getLsbD, Nat.testBit_eq_decide_div_mod_eq, Bool.not_eq_true', decide_eq_false_iff_not]
    omega
  have hgen : h.extractLsb' 4 4 = (s.txn (entryOf h)).gen ↔ h.toNat / 16 = (s.txn (entryOf h)).gen.toNat := by
    rw [BitVec.toNat_inj.symm, BitVec.extractLsb'_toNat, Nat.shiftRight_eq_div_pow, Nat.mod_eq_of_lt (by omega)]
  rw [State.handleValid, Bool.and_eq_true, beq_iff_eq, hbit, hgen]

/-- A handle that passes the check reaches the entry it names (R131). -/
theorem State.withHandle_valid {s : State} {h : Byte} (hv : s.handleValid h = true) (f : State → TxnIx → State) :
    s.withHandle h f = f s (entryOf h) := if_pos hv

/-- A handle that fails the check is refused, whatever the port (R131). -/
theorem State.withHandle_invalid {s : State} {h : Byte} (hv : ¬ s.handleValid h = true) (f : State → TxnIx → State) :
    s.withHandle h f = s.raiseHere .badHandle := if_neg hv

/-- An entry given back has another generation than the handle that named it (R130). -/
theorem State.handleValid_freed {s : State} {h : Byte} (hv : s.handleValid h = true) :
    (s.modTxn (entryOf h) Txn.freed).handleValid h = false := by
  obtain ⟨_, hold⟩ := (s.handleValid_iff h).1 hv
  rw [Bool.eq_false_iff, Ne, State.handleValid_iff]
  rintro ⟨_, hnew⟩
  rw [State.modTxn_txn_same] at hnew
  have hgen : (s.txn (entryOf h)).gen.toNat = ((s.txn (entryOf h)).gen + 1).toNat := hold.symm.trans hnew
  bv_omega

/-! ## Request fields -/

/-- The fields that refuse every write lie outside offsets 8 to 23 of an entry (R129, R132). -/
theorem TxnField.readOnly_iff_offset {k : Nat} {f : TxnField} (hk : k < 32) (hf : txnField k = some f) :
    (!f.request) = true ↔ k < 8 ∨ 24 ≤ k := by
  have htable : ∀ k : Fin 32, ∀ f ∈ txnField k.val, ((!f.request) = true ↔ k.val < 8 ∨ 24 ≤ k.val) := by decide
  exact htable ⟨k, hk⟩ f hf

/-- A byte at the address of a field of an entry is written to that field, whether it is taken or refused (R132, R172). -/
theorem exec_writing_txn {s : State} {e : TxnIx} {k : Nat} {f : TxnField} (b : Byte) (hk : k < 32)
    (hf : txnField k = some f) (h : s.writingAt (BitVec.ofNat 11 (0x600 + 32 * e.val + k))) :
    exec (.registerWrite b) s = .next (State.handOverRetry ((s.writeTxn e f b).modPort Port.tookByte)) := by
  have hreg : regAt (BitVec.ofNat 11 (0x600 + 32 * e.val + k)) = .txn e f := regAt_txn e ⟨k, hk⟩ f hf
  rw [exec_writing rfl h, hreg]
  rfl

/-- Settles O43: the field's place in the entry decides whether it is a request field, and then the entry's state. -/
theorem requestFieldsLocked : Obligations.RequestFieldsLocked := by
  intro s e k f b hk hf hw
  rw [exec_writing_txn b hk hf hw, State.writeTxn]
  simp only [TxnField.readOnly_iff_offset hk hf]
  congr 2
  by_cases hro : k < 8 ∨ 24 ≤ k
  · rw [if_pos hro, if_pos hro]
    rfl
  · rw [if_neg hro, if_neg hro]
    by_cases hst : (s.txn e).state = .reserved
    · rw [if_pos hst, if_neg (not_not_intro hst)]
      cases f <;> rfl
    · rw [if_neg hst, if_pos hst]
      rfl

/-! ## ALLOC -/

/-- ALLOC takes the FREE entry that has no FREE entry below it (R133). -/
theorem State.freeEntry_eq_some {s : State} {e : TxnIx} (he : (s.txn e).state = .free)
    (hlow : ∀ k, k < e → (s.txn k).state ≠ .free) : s.freeEntry = some e := by
  rw [State.freeEntry, ← Fin.find?_eq_find?_finRange, Fin.find?_eq_some_iff]
  exact ⟨beq_iff_eq.2 he, fun k hk => beq_eq_false_iff_ne.2 (hlow k hk)⟩

theorem State.freeEntry_eq_none {s : State} (h : ∀ e, (s.txn e).state ≠ .free) : s.freeEntry = none :=
  List.find?_eq_none.2 fun e _ => by simpa using h e

theorem State.allocate_of_free {s : State} {e : TxnIx} (h : s.freeEntry = some e) :
    s.allocate = (s.handle e, s.modTxn e Txn.allocated) := by
  rw [State.allocate, h]

theorem State.allocate_of_full {s : State} (h : s.freeEntry = none) : s.allocate = (Config.noHandle, s) := by
  rw [State.allocate, h]

/-- Allocation leaves the host port alone. -/
theorem State.allocate_port (s : State) : s.allocate.2.port = s.port := by
  cases h : s.freeEntry with
  | none => rw [State.allocate_of_full h]
  | some e => rw [State.allocate_of_free h, State.modTxn_port]

/-- The read at ALLOC returns the byte of the allocation and leaves the pointer where it is (R133, R174). -/
theorem exec_alloc {s : State} (h : s.readingAt 0x038) :
    exec .alloc s = .next (State.handOverRetry { s.allocate.2 with
      port := { s.port with readDue := false, sdaByte := some s.allocate.1 } }) := by
  have hstay : nextPointer s.port.pointer = s.port.pointer := by
    rw [h.2]
    decide
  rw [exec_reading rfl h]
  show Host.Outcome.next (State.handOverRetry (s.allocate.2.modPort _)) = _
  rw [State.modPort, State.allocate_port, hstay]
  rfl

theorem State.handOver_txns (s : State) (w : WorkItem) : (s.handOver w).txns = s.txns := by
  rw [State.handOver_eq, State.withExchange_txns]

/-- The hand-over of a retry changes no transaction entry. -/
theorem State.handOverRetry_txns (s : State) : s.handOverRetry.txns = s.txns := by
  unfold State.handOverRetry
  split
  · split
    · split
      · rfl
      · exact s.handOver_txns _
    · rfl
  · rfl

/-- A bus timeout in a read transfer changes no transaction entry (R133, R177). -/
theorem exec_busTimeout_txns_of_reading {t u : State} (hdue : t.port.readDue = false) (hphase : t.port.phase = .readData)
    (hu : exec .busTimeout t = .next u) : u.txns = t.txns := by
  have habort : t.abortTransfer = (t.modEvq Evq.close).modPort Port.release := by
    simp [State.abortTransfer, hphase, PortPhase.writing]
  have hstep : exec .busTimeout t = .next (t.abortTransfer.handOverRetry) :=
    congrArg Host.Outcome.next (State.moment_notDue _ hdue)
  rw [hstep, Host.Outcome.next.injEq] at hu
  rw [← hu, State.handOverRetry_txns, habort, State.modPort_txns, State.modEvq_txns]

/-- Settles O54: the row is the allocation, by whether some entry is FREE; what it leaves is a read transfer, whose abort
concerns no entry. -/
theorem allocTakesLowestFree : Obligations.AllocTakesLowestFree := by
  intro s hs
  refine ⟨fun e he hlow => ?_, fun hfull => ?_, fun t u ht hu => ?_⟩
  · rw [exec_alloc hs, State.allocate_of_free (State.freeEntry_eq_some he hlow), State.handle, handleOf_eq_ofNat]
    rfl
  · rw [exec_alloc hs, State.allocate_of_full (State.freeEntry_eq_none hfull)]
    rfl
  · rw [exec_alloc hs, Host.Outcome.next.injEq] at ht
    have hport : t.port = { s.port with readDue := false, sdaByte := some s.allocate.1 } := by
      rw [← ht]
      exact (State.kept_handOverRetry _).port
    refine exec_busTimeout_txns_of_reading ?_ ?_ hu
    · rw [hport]
    · rw [hport]
      exact hs.1

/-! ## RELEASE -/

/-- The byte at RELEASE is a handle, checked before the entry it names is (R131, R144). -/
theorem exec_release {s : State} (h : Byte) (hw : s.writingAt 0x03B) :
    exec (.release h) s =
      .next (State.handOverRetry ((s.withHandle h State.releaseEntry).modPort Port.tookByte)) := by
  rw [exec_writing rfl hw]
  rfl

/-- RELEASE frees an entry whose state is terminal (R144). -/
theorem State.releaseEntry_terminal {s : State} {e : TxnIx}
    (h : (s.txn e).state = .done ∨ (s.txn e).state = .failed ∨ (s.txn e).state = .cancelled) :
    s.releaseEntry e = s.modTxn e Txn.freed := by
  obtain h | h | h := h <;> rw [State.releaseEntry, h]

/-- RELEASE comes too late for an entry that is waiting or being worked (R144). -/
theorem State.releaseEntry_pending {s : State} {e : TxnIx}
    (h : (s.txn e).state = .queued ∨ (s.txn e).state = .active) : s.releaseEntry e = s.raiseHere .tooLate := by
  obtain h | h := h <;> rw [State.releaseEntry, h]

/-- RELEASE finds nothing to free in an entry that was never submitted (R144). -/
theorem State.releaseEntry_unsubmitted {s : State} {e : TxnIx}
    (h : (s.txn e).state = .free ∨ (s.txn e).state = .reserved) : s.releaseEntry e = s.raiseHere .badHandle := by
  obtain h | h := h <;> rw [State.releaseEntry, h]

/-- A refused byte raises its error at the address written and changes nothing else (R169, R172). -/
theorem State.raiseHere_took {s : State} {a : Addr} (hw : s.writingAt a) (c : HostError) :
    (s.raiseHere c).modPort Port.tookByte = { s with err := s.err.take c a, port := s.port.tookByte } := by
  rw [State.raiseHere, hw.2.2]
  rfl

/-- Settles O57: the handle check first, then the state of the entry it names. -/
theorem releaseFreesTerminalEntry : Obligations.ReleaseFreesTerminalEntry := by
  intro s h hw e x valid refused
  have hcheck : s.handleValid h = true ↔ valid := s.handleValid_iff h
  refine ⟨fun hv hterm => ⟨_, rfl, ?_, ?_⟩, fun hv hpend => ?_, fun hbad => ?_⟩
  · rw [exec_release h hw, State.withHandle_valid (hcheck.2 hv), State.releaseEntry_terminal hterm]
    rfl
  · exact State.handleValid_freed (hcheck.2 hv)
  · rw [exec_release h hw, State.withHandle_valid (hcheck.2 hv), State.releaseEntry_pending hpend,
      State.raiseHere_took hw]
  · have hrefused : s.withHandle h State.releaseEntry = s.raiseHere .badHandle := by
      by_cases hv : valid
      · rw [State.withHandle_valid (hcheck.2 hv),
          State.releaseEntry_unsubmitted (hbad.resolve_left (not_not_intro hv))]
      · exact State.withHandle_invalid (fun hc => hv (hcheck.1 hc)) _
    rw [exec_release h hw, hrefused, State.raiseHere_took hw]

end Sys2Proof.Machine
end

section
/-! SUPPORT. A command byte at CMD: the port after it, and what EVQ_FLUSH does to the queue (R159, R174, R178), with the
statement about the row that follows. -/

namespace Sys2Proof.Machine

/-! ## The command byte -/

/-- The pointer is of the transfer: neither the staging nor the soft reset mark decides it. -/
theorem Port.SameTransfer.pointer_eq {p q : Port} (h : p.SameTransfer q) : q.pointer = p.pointer := by
  have hpointer := congrArg Port.pointer h
  exact hpointer

/-- No command moves the pointer: it stays where the command byte found it. -/
theorem State.command_pointer (s : State) (b : Byte) : (s.command b).port.pointer = s.port.pointer :=
  (s.command_port b).pointer_eq

/-- A command byte at CMD runs its command, is acknowledged, and leaves the pointer at CMD, which is a port address (R174,
R178). -/
theorem exec_command {c : Instr} {b : Byte} {s : State} (hc : c.sentByte = some b) (h : s.writingAt 0x009) :
    exec c s = .next (State.handOverRetry ((s.command b).modPort fun p => { p with ack := true })) := by
  have hstay : nextPointer (s.command b).port.pointer = (s.command b).port.pointer := by
    rw [State.command_pointer, h.2.2]
    decide
  rw [exec_writing hc h]
  show Host.Outcome.next (State.handOverRetry ((s.command b).modPort Port.tookByte)) = _
  rw [State.modPort, Port.tookByte, hstay]
  rfl

/-! ## EVQ_FLUSH -/

/-- The flush empties the list, the lost count and the read state, and keeps the policy and the mask (R159, R166). -/
theorem Evq.flush_eq (q : Evq) :
    q.flush = { q with records := [], lost := 0, overflowed := false, reading := none, headAge := 0, headSub := 0 } := rfl

/-- The code of EVQ_FLUSH, told from the six codes judged before it, answers OK and flushes the queue in every state (R159,
R178). -/
theorem State.command_evqFlush (s : State) : s.command Config.codeEvqFlush = (s.answer .ok).modEvq Evq.flush := by
  unfold State.command
  iterate 6 rw [if_neg (by decide)]
  rw [if_pos rfl, State.cmdEvqFlush]

/-- Settles O52: the row is the command byte of EVQ_FLUSH, whose effect on the queue no other part of the state decides. -/
theorem flushEmptiesQueue : Obligations.FlushEmptiesQueue := by
  intro s hw
  rw [exec_command (b := Config.codeEvqFlush) rfl hw, State.command_evqFlush, State.modEvq, Evq.flush_eq]
  rfl

end Sys2Proof.Machine
end

section
/-! SUPPORT. What a step is made of, so that what every part keeps every step keeps; and what a command byte and a register
write leave of the blocks they do not own. -/

namespace Sys2Proof.Machine

/-! ## The parts of a step -/

/-- `P` is kept by every part a step is made of: the read that is due, the hand-over of a waiting retry, the effect of each
row, and each clock of an idle step. -/
structure StepKeeps (P : State → Prop) : Prop where
  supplyByte : ∀ s : State, P s → s.port.readDue = true ∨ s.port.phase = .readData → P s.supplyByte
  handOverRetry : ∀ s : State, P s → P s.handOverRetry
  takeAddress : ∀ (s : State) (b : Byte), P s → P (s.takeAddress b)
  receiveByte : ∀ (s : State) (b : Byte), P s → P (s.receiveByte b)
  endTransfer : ∀ s : State, P s → P s.endTransfer
  abortTransfer : ∀ s : State, P s → P s.abortTransfer
  notAcknowledge : ∀ s : State, P s → s.port.readDue = false → P s.notAcknowledge
  deviceReset : ∀ (s : State) (c : ResetCause), P s → P (s.deviceReset c)
  endDeviceReset : ∀ (s : State) (straps : BitVec 2), P s → P (s.endDeviceReset straps)
  endInit : ∀ s : State, P s → P s.endInit
  timerExpiry : ∀ s : State, P s → P s.timerExpiry
  syncEdge : ∀ (s : State) (e : Edge), P s → P (s.syncEdge e)
  assertSelect : ∀ s : State, P s → P s.assertSelect
  completion : ∀ (s : State) (d : List Byte) (o : RetryOrder), P s → P (s.completion d o)
  reachDelay : ∀ s : State, P s → P (s.modEvq fun q => q.reachDelay s.attn.delay)
  tickEvq : ∀ s : State, P s → P (s.modEvq Evq.tick)
  rest : ∀ s : State, P s → P (s.modLink fun l => { l with rested := true })
  countDown : ∀ (s : State) (k : Nat), P s → s.engine.timer = some k → 1 < k →
    P (s.modEngine fun g => { g with timer := some (k - 1) })
  countInit : ∀ (s : State) (why : ResetReason) (k : Nat), P s → s.power = .initializing why k → 1 < k →
    P { s with power := .initializing why (k - 1) }

variable {P : State → Prop}

/-- No byte is due once the one that was due is read. -/
theorem State.takeDueRead_readDue (s : State) : s.takeDueRead.port.readDue = false := by
  unfold State.takeDueRead
  split
  · rfl
  · next h => simpa using h

theorem StepKeeps.takeDueRead (h : StepKeeps P) {s : State} (hs : P s) : P s.takeDueRead := by
  unfold State.takeDueRead
  split
  · next hd => exact h.supplyByte s hs (.inl hd)
  · exact hs

theorem StepKeeps.moment (h : StepKeeps P) {f : State → State} (hf : ∀ s, P s → s.port.readDue = false → P (f s))
    {s : State} (hs : P s) : P (State.moment f s) :=
  h.handOverRetry _ (hf _ (h.takeDueRead hs) s.takeDueRead_readDue)

theorem StepKeeps.readMoment (h : StepKeeps P) {s : State} (hs : P s) : P s.readMoment := by
  unfold State.readMoment State.requestByte
  refine h.handOverRetry _ ?_
  split
  · next hp => exact h.supplyByte s hs (.inr hp)
  · exact hs

theorem StepKeeps.completionMoment (h : StepKeeps P) {s : State} (hs : P s) (d : List Byte) (o : RetryOrder) :
    P (s.completionMoment d o) := by
  unfold State.completionMoment
  dsimp only
  split
  · exact h.handOverRetry _ (h.takeDueRead hs)
  · exact h.completion _ d o (h.takeDueRead hs)

theorem StepKeeps.tickTimer (h : StepKeeps P) {s : State} (hs : P s) : P s.tickTimer := by
  unfold State.tickTimer
  split
  · next k hk =>
    split
    · next h1 => exact h.countDown s k hs hk h1
    · exact h.timerExpiry s hs
  · exact hs

theorem StepKeeps.tickInit (h : StepKeeps P) {s : State} (hs : P s) : P s.tickInit := by
  unfold State.tickInit
  split
  · next why k hk =>
    split
    · next h1 => exact h.countInit s why k hs hk h1
    · exact h.endInit s hs
  · exact hs

theorem StepKeeps.idleTick (h : StepKeeps P) {s : State} (hs : P s) : P s.idleTick :=
  h.tickInit (h.tickTimer (h.assertSelect _ (h.rest _ (h.tickEvq _ (h.handOverRetry _ (h.takeDueRead hs))))))

/-- Every command answers a state of which `P` holds. -/
theorem StepKeeps.exec (h : StepKeeps P) {c : Instr} {s t : State} (hs : P s) (ht : exec c s = .next t) : P t := by
  by_cases hask : c.asksByte = true
  · rw [exec_asksByte hask, Host.Outcome.next.injEq] at ht
    exact ht ▸ h.readMoment hs
  by_cases hsent : ∃ b, c.sentByte = some b
  · obtain ⟨b, hb⟩ := hsent
    rw [exec_sentByte hb, Host.Outcome.next.injEq] at ht
    exact ht ▸ h.moment (fun u hu _ => h.receiveByte u b hu) hs
  cases c with
  | addressByte b => cases ht; exact h.moment (fun u hu _ => h.takeAddress u b hu) hs
  | transferEnd => cases ht; exact h.moment (fun u hu _ => h.endTransfer u hu) hs
  | busTimeout => cases ht; exact h.moment (fun u hu _ => h.abortTransfer u hu) hs
  | hostNotAcknowledge => cases ht; exact h.moment h.notAcknowledge hs
  | deviceReset cause => cases ht; exact h.moment (fun u hu _ => h.deviceReset u cause hu) hs
  | deviceResetEnd straps => cases ht; exact h.moment (fun u hu _ => h.endDeviceReset u straps hu) hs
  | initPeriodEnd => cases ht; exact h.moment (fun u hu _ => h.endInit u hu) hs
  | cycleTimerExpiry => cases ht; exact h.moment (fun u hu _ => h.timerExpiry u hu) hs
  | syncInputEdge e => cases ht; exact h.moment (fun u hu _ => h.syncEdge u e hu) hs
  | selectAssert => cases ht; exact h.moment (fun u hu _ => h.assertSelect u hu) hs
  | exchangeCompletion d o => cases ht; exact h.completionMoment hs d o
  | attnDelayExpiry => cases ht; exact h.moment (fun u hu _ => h.reachDelay u hu) hs
  | _ => first | exact absurd rfl hask | exact absurd ⟨_, rfl⟩ hsent

/-- What every part of a step keeps, whatever commands wait, every step keeps. -/
theorem StepKeeps.step (h : StepKeeps P) (hqueue : ∀ (s : State) (l : List Instr), P s → P { s with pending := l })
    {s t : State} (hs : P s) (ht : step s = .next t) : P t := by
  unfold Machine.step at ht
  split at ht
  · cases ht
    exact h.idleTick hs
  · next c rest _ => exact h.exec (hqueue s rest hs) ht

/-! ## What a command byte leaves -/

/-- What a command byte leaves of the blocks it does not own, whatever its code: the registers the host writes, the power
phase, the strap pins and the waiting commands; of the transfer, staging and the open item are kept or discarded. -/
structure State.CommandKept (s t : State) : Prop where
  power : t.power = s.power
  slots : t.slots = s.slots
  attn : t.attn = s.attn
  adrPins : t.adrPins = s.adrPins
  pending : t.pending = s.pending
  profiles : t.link.profiles = s.link.profiles
  engine : t.engine.registers = s.engine.registers
  node : ∀ n, (t.node n).hostSide = (s.node n).hostSide
  staging : t.port.staging = s.port.staging ∨ t.port.staging = []
  reading : t.evq.reading = s.evq.reading ∨ t.evq.reading = none

theorem State.CommandKept.refl (s : State) : s.CommandKept s :=
  ⟨rfl, rfl, rfl, rfl, rfl, rfl, rfl, fun _ => rfl, .inl rfl, .inl rfl⟩

/-- The open item is one of the queue's registers. -/
theorem State.HostSideKept.reading {s t : State} (h : s.HostSideKept t) : t.evq.reading = s.evq.reading := by
  have hreading := congrArg Evq.reading h.evq
  exact hreading

/-- What belongs to the host is kept by an effect that follows an answer or an error. -/
theorem State.HostSideKept.after {s u t : State} (h : u.HostSideKept t) (hu : s.CommandKept u) : s.CommandKept t where
  power := h.power.trans hu.power
  slots := h.slots.trans hu.slots
  attn := h.attn.trans hu.attn
  adrPins := h.adrPins.trans hu.adrPins
  pending := h.pending.trans hu.pending
  profiles := h.profiles.trans hu.profiles
  engine := h.engine.trans hu.engine
  node n := (h.node n).trans (hu.node n)
  staging := by rw [h.port]; exact hu.staging
  reading := by rw [h.reading]; exact hu.reading

theorem State.HostSideKept.command {s t : State} (h : s.HostSideKept t) : s.CommandKept t := h.after (.refl s)

theorem State.commandKept_answer (s : State) (c : CmdStatus) : s.CommandKept (s.answer c) :=
  ⟨rfl, rfl, rfl, rfl, rfl, rfl, rfl, fun _ => rfl, .inl rfl, .inl rfl⟩

theorem State.commandKept_refuse (s : State) : s.CommandKept s.refuseCommand :=
  ⟨rfl, rfl, rfl, rfl, rfl, rfl, rfl, fun _ => rfl, .inl rfl, .inl rfl⟩

theorem State.commandKept_cmdStartScan (s : State) : s.CommandKept s.cmdStartScan := by
  unfold State.cmdStartScan
  split
  · have hbegun : s.CommandKept (((s.answer .ok).modEngine fun g =>
        { g with latchedLen := g.schedLen.toNat }).enterWaiting.emit .scanState Config.noNode EngineState.waiting.code 1) :=
      ((State.kept_modEngine _ _ (by rfl)).trans ((State.kept_enterWaiting _).trans
        (State.kept_emit _ _ _ _ _))).after (s.commandKept_answer .ok)
    dsimp only
    split
    · refine ((State.kept_modEngine _ Engine.loadTimer ?_).trans ((State.kept_beginCycle _).trans
        (State.kept_idleBoundary _))).after hbegun
      rfl
    · exact (State.kept_idleBoundary _).after hbegun
  · exact s.commandKept_refuse

/-- A suppressed work item whose retry is withdrawn, whatever was answered and noted before. -/
theorem State.commandKept_pending (s : State) (who : Awaited) (f : Engine → Engine) (k : Link → Link)
    (hf : (f s.engine).registers = s.engine.registers) (hk : (k s.link).profiles = s.link.profiles) :
    s.CommandKept ((((s.answerPending who).modEngine f).modLink k).withdrawRetry) := by
  refine (State.kept_withdrawRetry _).after ?_
  exact ⟨rfl, rfl, rfl, rfl, rfl, hk, hf, fun _ => rfl, .inl rfl, .inl rfl⟩

theorem State.commandKept_cmdStopScan (s : State) : s.CommandKept s.cmdStopScan := by
  unfold State.cmdStopScan
  split
  · exact s.commandKept_refuse
  · exact s.commandKept_refuse
  · exact (State.kept_enterStopped _).after (s.commandKept_answer .ok)
  · split
    · exact (State.kept_enterStopped _).after (s.commandKept_answer .ok)
    · exact s.commandKept_pending _ _ _ rfl rfl

theorem State.commandKept_pendNodeCmd (s : State) (c : NodeCmd) : s.CommandKept (s.pendNodeCmd c) :=
  s.commandKept_pending .nodeCommand id _ rfl rfl

theorem State.commandKept_nodeEnable (s : State) (n : NodeIx) : s.CommandKept (s.nodeEnable n) := by
  unfold State.nodeEnable
  split
  · exact s.commandKept_refuse
  · split
    · exact ((State.kept_enableNode _ n).trans (State.kept_probeBoundary _ n)).after (s.commandKept_answer .ok)
    · exact ⟨rfl, rfl, rfl, rfl, rfl, rfl, rfl, fun _ => rfl, .inl rfl, .inl rfl⟩

theorem State.commandKept_nodeDisable (s : State) (n : NodeIx) : s.CommandKept (s.nodeDisable n) := by
  unfold State.nodeDisable
  split
  · exact s.commandKept_refuse
  · split
    · exact s.commandKept_pendNodeCmd _
    · exact (State.kept_disableNode _ n).after (s.commandKept_answer .ok)

theorem State.commandKept_nodeReprobe (s : State) (n : NodeIx) : s.CommandKept (s.nodeReprobe n) := by
  unfold State.nodeReprobe
  split
  · exact s.commandKept_refuse
  · split
    · split
      · exact s.commandKept_refuse
      · exact s.commandKept_pendNodeCmd _
    · exact ((State.kept_reprobeNode _ n).trans (State.kept_probeBoundary _ n)).after (s.commandKept_answer .ok)

theorem State.commandKept_cmdNode (s : State) (f : State → NodeIx → State) (hf : ∀ n, s.CommandKept (f s n)) :
    s.CommandKept (s.cmdNode f) := by
  unfold State.cmdNode
  split
  · exact hf _
  · exact ⟨rfl, rfl, rfl, rfl, rfl, rfl, rfl, fun _ => rfl, .inl rfl, .inl rfl⟩

theorem Node.cleared_hostSide (x : Node) (disabling : Bool) : (x.cleared disabling).hostSide = x.hostSide := by
  unfold Node.cleared
  dsimp only
  split
  · rfl
  · split <;> rfl

/-- A node after SCAN_CLEAR. -/
@[simp] theorem State.cmdScanClear_node (s : State) (n : NodeIx) :
    s.cmdScanClear.node n = (s.node n).cleared (s.disablePending n) := by
  simp [State.cmdScanClear, State.node]

theorem State.commandKept_cmdScanClear (s : State) : s.CommandKept s.cmdScanClear :=
  ⟨rfl, rfl, rfl, rfl, rfl, rfl, rfl, fun n => by rw [State.cmdScanClear_node, Node.cleared_hostSide], .inr rfl, .inr rfl⟩

/-- What a command byte leaves, whatever its code. -/
theorem State.commandKept_command (s : State) (b : Byte) : s.CommandKept (s.command b) := by
  unfold State.command
  split
  · exact s.commandKept_cmdStartScan
  split
  · exact s.commandKept_cmdStopScan
  split
  · unfold State.cmdTriggerCycle
    split
    · exact s.commandKept_refuse
    · exact (State.kept_cycleStart _).after (s.commandKept_answer .ok)
  split
  · exact s.commandKept_cmdNode _ s.commandKept_nodeEnable
  split
  · exact s.commandKept_cmdNode _ s.commandKept_nodeDisable
  split
  · exact s.commandKept_cmdNode _ s.commandKept_nodeReprobe
  split
  · exact ⟨rfl, rfl, rfl, rfl, rfl, rfl, rfl, fun _ => rfl, .inl rfl, .inr rfl⟩
  split
  · exact s.commandKept_cmdScanClear
  · split <;> exact ⟨rfl, rfl, rfl, rfl, rfl, rfl, rfl, fun _ => rfl, .inl rfl, .inl rfl⟩

end Sys2Proof.Machine
end

section
/-! SUPPORT. The registers the host writes: what belongs to the host of each block, the ranges that every write keeps, and
the statement that every step keeps them. -/

namespace Sys2Proof.Machine

/-! ## What the host side of a block holds -/

/-- Two nodes agree in what the host alone writes exactly where they agree in each of its fields. -/
theorem Node.hostSide_eq_iff (x y : Node) : x.hostSide = y.hostSide ↔
    x.segment = y.segment ∧ x.address = y.address ∧ x.profile = y.profile ∧ x.outLen = y.outLen ∧ x.inLen = y.inLen ∧
    x.expectType = y.expectType ∧ x.options = y.options ∧ x.matchValueHi = y.matchValueHi ∧
    x.matchValueLo = y.matchValueLo ∧ x.matchMaskHi = y.matchMaskHi ∧ x.matchMaskLo = y.matchMaskLo ∧
    x.output = y.output ∧ x.rise = y.rise ∧ x.fall = y.fall := by
  have happend : ∀ {u v : Vector Byte 8} {k l : List Byte}, u.toList ++ k = v.toList ++ l ↔ u = v ∧ k = l := by
    intro u v k l
    rw [← Vector.toList_inj]
    exact ⟨fun h => List.append_inj h (by simp), fun ⟨h, h'⟩ => by rw [h, h']⟩
  simp only [Node.hostSide, List.append_assoc, List.cons_append, List.nil_append, List.cons.injEq, happend,
    Vector.toList_inj]

/-- Two engines agree in the scan configuration group exactly where they agree in each of its registers. -/
theorem Engine.registers_eq_iff (g h : Engine) : g.registers = h.registers ↔
    g.source = h.source ∧ g.syncEdge = h.syncEdge ∧ g.linkMode = h.linkMode ∧ g.period = h.period ∧
    g.pendingHigh = h.pendingHigh ∧ g.schedLen = h.schedLen ∧ g.retryLimit = h.retryLimit ∧
    g.offlineThreshold = h.offlineThreshold ∧ g.reprobeInterval = h.reprobeInterval := by
  simp [Engine.registers]

/-! ## Legal registers -/

/-- The registers are legal where those of each block are. -/
theorem State.registersLegal_iff (s : State) : s.registersLegal = true ↔
    (∀ p : ProfileIx, s.link.profiles[p].legal = true) ∧ (∀ k : SlotIx, s.slots[k].legal = true) ∧
    s.engine.configLegal = true ∧ s.attn.legal = true ∧ ∀ n, (s.node n).configLegal = true := by
  simp only [State.registersLegal, Bool.and_eq_true, List.all_eq_true, List.mem_finRange, true_implies, and_assoc]

theorem Engine.configLegal_congr {g h : Engine} (e : g.registers = h.registers) : g.configLegal = h.configLegal := by
  obtain ⟨-, -, -, hperiod, -, hlen, hretry, hoff, hreprobe⟩ := (Engine.registers_eq_iff g h).1 e
  simp only [Engine.configLegal, hperiod, hlen, hretry, hoff, hreprobe]

theorem Node.configLegal_congr {x y : Node} (e : x.hostSide = y.hostSide) : x.configLegal = y.configLegal := by
  obtain ⟨hseg, haddr, hprof, -, -, -, hopt, -⟩ := (Node.hostSide_eq_iff x y).1 e
  simp only [Node.configLegal, hseg, haddr, hprof, hopt]

/-- No command byte takes a register out of its range. -/
theorem State.CommandKept.registersLegal {s t : State} (h : s.CommandKept t) (hs : s.registersLegal = true) :
    t.registersLegal = true := by
  rw [State.registersLegal_iff] at hs ⊢
  rw [h.profiles, h.slots, h.attn, Engine.configLegal_congr h.engine]
  obtain ⟨hprof, hslot, hengine, hattn, hnode⟩ := hs
  exact ⟨hprof, hslot, hengine, hattn, fun n => by rw [Node.configLegal_congr (h.node n)]; exact hnode n⟩

/-- What leaves the host's side leaves its registers legal. -/
theorem State.HostSideKept.registersLegal {s t : State} (h : s.HostSideKept t) (hs : s.registersLegal = true) :
    t.registersLegal = true := h.command.registersLegal hs

theorem State.registersLegal_modEngine {s : State} {f : Engine → Engine} (hs : s.registersLegal = true)
    (hf : s.engine.configLegal = true → (f s.engine).configLegal = true) : (s.modEngine f).registersLegal = true := by
  rw [State.registersLegal_iff] at hs ⊢
  exact ⟨hs.1, hs.2.1, hf hs.2.2.1, hs.2.2.2⟩

theorem State.registersLegal_modAttn {s : State} {f : Attn → Attn} (hs : s.registersLegal = true)
    (hf : s.attn.legal = true → (f s.attn).legal = true) : (s.modAttn f).registersLegal = true := by
  rw [State.registersLegal_iff] at hs ⊢
  exact ⟨hs.1, hs.2.1, hs.2.2.1, hf hs.2.2.2.1, hs.2.2.2.2⟩

theorem State.registersLegal_modNode {s : State} {n : NodeIx} {f : Node → Node} (hs : s.registersLegal = true)
    (hf : (s.node n).configLegal = true → (f (s.node n)).configLegal = true) : (s.modNode n f).registersLegal = true := by
  rw [State.registersLegal_iff] at hs ⊢
  refine ⟨hs.1, hs.2.1, hs.2.2.1, hs.2.2.2.1, fun m => ?_⟩
  rw [State.modNode_node]
  split
  · exact hf (hs.2.2.2.2 n)
  · exact hs.2.2.2.2 m

/-! ## Writes keep the ranges -/

theorem Profile.legal_set {p : Profile} {f : ProfileField} {b : Byte} (hb : f.legal b = true) (h : p.legal = true) :
    (p.set f b).legal = true := by
  cases f <;> simp_all [Profile.set, Profile.legal]

theorem Node.configLegal_set {x : Node} {f : NodeField} {b : Byte} (hb : f.legal b = true) (h : x.configLegal = true) :
    (x.set f b).configLegal = true := by
  cases f <;> simp_all [Node.set, Node.configLegal, NodeField.legal]

theorem State.registersLegal_writeChecked {s t : State} {legal : Bool} (hs : s.registersLegal = true)
    (ht : legal = true → t.registersLegal = true) : (s.writeChecked legal t).registersLegal = true := by
  unfold State.writeChecked
  split
  · next h => exact ht h
  · exact hs

theorem State.registersLegal_writePeriodLow {s : State} (b : Byte) (hs : s.registersLegal = true) :
    (s.writePeriodLow b).registersLegal = true := by
  unfold State.writePeriodLow
  dsimp only
  split
  · exact hs
  · next hv =>
    refine State.registersLegal_modEngine (s := s.modEngine fun g => { g with pendingHigh := none }) hs fun hg => ?_
    simp only [Engine.configLegal, State.modEngine_engine, Bool.and_eq_true, bne_iff_ne, ne_eq] at hg ⊢
    obtain ⟨⟨⟨⟨⟨-, hlen⟩, hretry⟩, hlow⟩, hhigh⟩, hreprobe⟩ := hg
    exact ⟨⟨⟨⟨⟨hv, hlen⟩, hretry⟩, hlow⟩, hhigh⟩, hreprobe⟩

theorem State.registersLegal_writeProfile {s : State} (p : ProfileIx) (f : ProfileField) (b : Byte)
    (hs : s.registersLegal = true) : (s.writeProfile p f b).registersLegal = true := by
  unfold State.writeProfile
  split
  · exact hs
  · split
    · next hb =>
      rw [State.registersLegal_iff] at hs ⊢
      obtain ⟨hprof, hrest⟩ := hs
      refine ⟨fun q => ?_, hrest⟩
      simp only [State.modLink_link, Fin.getElem_fin, Vector.getElem_set]
      split
      · exact Profile.legal_set hb (hprof p)
      · exact hprof q
    · exact hs

theorem State.registersLegal_writeNodeConfig {s : State} (n : NodeIx) (f : NodeField) (b : Byte)
    (hs : s.registersLegal = true) : (s.writeNodeConfig n f b).registersLegal = true := by
  unfold State.writeNodeConfig
  split
  · exact hs
  · split
    · next hb => exact State.registersLegal_modNode hs (Node.configLegal_set hb)
    · exact hs

/-- A byte of a slot's pair may be written: each is judged on its own (R62). -/
def slotByteLegal (second : Bool) (b : Byte) : Bool := if second then slotByte1Legal b else slotByte0Legal b

/-- A slot with one byte of its pair replaced (R62). -/
def Slot.put (sl : Slot) (second : Bool) (b : Byte) : Slot := if second then { sl with byte1 := b } else { sl with byte0 := b }

/-- The schedule with one slot replaced (R62). -/
def State.setSlot (s : State) (k : SlotIx) (sl : Slot) : State := { s with slots := s.slots.set k sl }

/-- A slot write replaces the byte where it is legal, and may then form a boundary in WAITING (R62, R86). -/
theorem State.writeSlot_eq (s : State) (k : SlotIx) (second : Bool) (b : Byte) :
    s.writeSlot k second b =
      if slotByteLegal second b = true then
        let t := s.setSlot k (s.slots[k].put second b)
        if t.engine.state = .waiting ∧ t.unscheduledProbe = true then t.idleBoundary else t
      else s.raiseHere .badValue := rfl

theorem Slot.legal_put {sl : Slot} {second : Bool} {b : Byte} (hb : slotByteLegal second b = true)
    (h : sl.legal = true) : (sl.put second b).legal = true := by
  cases second <;> simp_all [Slot.put, Slot.legal, slotByteLegal]

theorem State.registersLegal_setSlot {s : State} {k : SlotIx} {sl : Slot} (hs : s.registersLegal = true)
    (hsl : sl.legal = true) : (s.setSlot k sl).registersLegal = true := by
  rw [State.registersLegal_iff] at hs ⊢
  obtain ⟨hprof, hslot, hrest⟩ := hs
  refine ⟨hprof, fun j => ?_, hrest⟩
  simp only [State.setSlot, Fin.getElem_fin, Vector.getElem_set]
  split
  · exact hsl
  · exact hslot j

theorem State.slot_legal {s : State} (hs : s.registersLegal = true) (k : SlotIx) : s.slots[k].legal = true := by
  obtain ⟨-, hslot, -⟩ := (State.registersLegal_iff s).1 hs
  exact hslot k

theorem State.registersLegal_writeSlot {s : State} (k : SlotIx) (second : Bool) (b : Byte)
    (hs : s.registersLegal = true) : (s.writeSlot k second b).registersLegal = true := by
  rw [State.writeSlot_eq]
  split
  · next hb =>
    have hwritten := State.registersLegal_setSlot (k := k) hs (Slot.legal_put hb (State.slot_legal hs k))
    dsimp only
    split
    · exact (State.kept_idleBoundary _).registersLegal hwritten
    · exact hwritten
  · exact hs

theorem State.registersLegal_withHandle {s : State} (h : Byte) {f : State → TxnIx → State} (hs : s.registersLegal = true)
    (hf : ∀ e, (f s e).registersLegal = true) : (s.withHandle h f).registersLegal = true := by
  unfold State.withHandle
  split
  · exact hf _
  · exact hs

theorem State.registersLegal_submitEntry {s : State} (e : TxnIx) (hs : s.registersLegal = true) :
    (s.submitEntry e).registersLegal = true := by
  unfold State.submitEntry
  dsimp only
  split
  · exact hs
  · split
    · exact (State.kept_idleBoundary _).registersLegal hs
    · exact hs

theorem State.registersLegal_cancelEntry {s : State} (e : TxnIx) (hs : s.registersLegal = true) :
    (s.cancelEntry e).registersLegal = true := by
  unfold State.cancelEntry
  split
  · exact hs
  · exact hs
  · exact (s.kept_cancelQueued e).registersLegal hs
  · exact (State.kept_suppressTxn _ e).registersLegal hs
  · exact hs
  · exact hs
  · exact hs

/-- A data byte keeps every range-checked register in its range, whatever register it is written to. -/
theorem State.registersLegal_writeReg {s : State} (r : Reg) (b : Byte) (hs : s.registersLegal = true) :
    (s.writeReg r b).registersLegal = true := by
  cases r with
  | cmd => exact (s.commandKept_command b).registersLegal hs
  | startSource =>
    show (s.writeSource b).registersLegal = true
    unfold State.writeSource
    repeat' split
    all_goals exact hs
  | syncEdge =>
    show (s.writeSyncEdge b).registersLegal = true
    unfold State.writeSyncEdge
    repeat' split
    all_goals exact hs
  | linkMode =>
    show (s.writeLinkMode b).registersLegal = true
    unfold State.writeLinkMode
    split <;> exact hs
  | periodLow => exact State.registersLegal_writePeriodLow b hs
  | schedLen =>
    refine State.registersLegal_writeChecked hs fun hb => State.registersLegal_modEngine hs fun hg => ?_
    simp_all [Engine.configLegal]
  | retryLimit =>
    refine State.registersLegal_writeChecked hs fun hb => State.registersLegal_modEngine hs fun hg => ?_
    simp_all [Engine.configLegal]
  | offlineThreshold =>
    refine State.registersLegal_writeChecked hs fun hb => State.registersLegal_modEngine hs fun hg => ?_
    simp_all [Engine.configLegal]
  | reprobeInterval =>
    refine State.registersLegal_writeChecked hs fun hb => State.registersLegal_modEngine hs fun hg => ?_
    simp_all [Engine.configLegal]
  | evqPolicy =>
    show (s.writePolicy b).registersLegal = true
    unfold State.writePolicy
    repeat' split
    all_goals exact hs
  | attnLevel =>
    refine State.registersLegal_writeChecked hs fun hb => State.registersLegal_modAttn hs fun ha => ?_
    simp_all [Attn.legal]
  | attnMask =>
    refine State.registersLegal_writeChecked hs fun hb => State.registersLegal_modAttn hs fun ha => ?_
    simp_all [Attn.legal]
  | txnSubmit => exact State.registersLegal_withHandle b hs fun e => State.registersLegal_submitEntry e hs
  | txnCancel => exact State.registersLegal_withHandle b hs fun e => State.registersLegal_cancelEntry e hs
  | txnRelease =>
    refine State.registersLegal_withHandle b hs fun e => ?_
    unfold State.releaseEntry
    split <;> exact hs
  | profile p f => exact State.registersLegal_writeProfile p f b hs
  | nodeConfig n f => exact State.registersLegal_writeNodeConfig n f b hs
  | slot k second => exact State.registersLegal_writeSlot k second b hs
  | rise n i => exact State.registersLegal_modNode hs id
  | fall n i => exact State.registersLegal_modNode hs id
  | txn e f =>
    show (s.writeTxn e f b).registersLegal = true
    unfold State.writeTxn
    repeat' split
    all_goals exact hs
  | _ => exact hs

/-! ## Every step keeps the ranges -/

/-- The reset values are legal (R13, R21, R61, R66, R164). -/
theorem State.registersLegal_atReset (power : Power) (pins : AdrPins) (l : List Instr) :
    (State.atReset power pins l).registersLegal = true := by
  have hnode : ∀ n, (State.atReset power pins l).node n = Node.reset := by
    intro n
    simp [State.node, State.atReset]
  rw [State.registersLegal_iff]
  refine ⟨fun p => ?_, fun k => ?_, by rfl, by rfl, fun n => ?_⟩
  · simp only [State.atReset, Link.reset, Fin.getElem_fin, Vector.getElem_replicate]
    decide
  · simp only [State.atReset, Fin.getElem_fin, Vector.getElem_replicate]
    decide
  · rw [hnode]
    decide

/-- A read touches no register the host writes. -/
theorem State.registersLegal_readEffect {s : State} (r : Reg) (hs : s.registersLegal = true) :
    (s.readEffect r).registersLegal = true := by
  unfold State.readEffect
  split <;> try exact hs
  unfold State.allocate
  split <;> exact hs

theorem State.registersLegal_commitStaging {s : State} (hs : s.registersLegal = true) :
    s.commitStaging.registersLegal = true := by
  have hcommit : ({ s with
      nodes := tabulate 16 fun n => (s.node n).commit (committed s.port.staging n (s.node n).output)
      port := { s.port with staging := [] } } : State).registersLegal = true := by
    rw [State.registersLegal_iff] at hs ⊢
    obtain ⟨hprof, hslot, hengine, hattn, hnode⟩ := hs
    refine ⟨hprof, hslot, hengine, hattn, fun n => ?_⟩
    have hconfig := hnode n
    simp only [State.node, Fin.getElem_fin, tabulate_getElem, Node.commit, Node.configLegal] at hconfig ⊢
    exact hconfig
  unfold State.commitStaging
  dsimp only
  split
  · exact (State.kept_idleBoundary _).registersLegal hcommit
  · exact hcommit

theorem State.registersLegal_endTransfer {s : State} (hs : s.registersLegal = true) :
    s.endTransfer.registersLegal = true := by
  unfold State.endTransfer
  split
  · exact hs
  · split
    · split
      · exact State.registersLegal_atReset _ _ _
      · exact State.registersLegal_commitStaging hs
    · exact hs

theorem stepKeeps_registersLegal : StepKeeps fun s => s.registersLegal = true where
  supplyByte s hs _ := State.registersLegal_readEffect _ hs
  handOverRetry s hs := s.kept_handOverRetry.registersLegal hs
  takeAddress s b hs := by
    unfold State.takeAddress
    dsimp only
    split <;> exact State.registersLegal_endTransfer hs
  receiveByte s b hs := by
    unfold State.receiveByte
    split <;> try exact hs
    exact State.registersLegal_writeReg _ b hs
  endTransfer s hs := State.registersLegal_endTransfer hs
  abortTransfer s hs := by
    unfold State.abortTransfer
    split
    · exact hs
    · split
      · exact State.registersLegal_atReset _ _ _
      · exact hs
  notAcknowledge s hs _ := by
    unfold State.notAcknowledge
    split <;> exact hs
  deviceReset s c hs := State.registersLegal_atReset _ _ _
  endDeviceReset s straps hs := by
    unfold State.endDeviceReset
    split <;> exact hs
  endInit s hs := by
    unfold State.endInit
    split <;> exact hs
  timerExpiry s hs := by
    unfold State.timerExpiry
    split
    · exact (State.kept_cycleStart _).registersLegal hs
    · exact hs
  syncEdge s e hs := by
    unfold State.syncEdge
    split
    · exact s.kept_cycleStart.registersLegal hs
    · exact hs
  assertSelect s hs := s.kept_assertSelect.registersLegal hs
  completion s d o hs := (s.kept_completion d o).registersLegal hs
  reachDelay s hs := hs
  tickEvq s hs := hs
  rest s hs := hs
  countDown s k hs _ _ := hs
  countInit s why k hs _ _ := hs

/-- Settles O7: no part of a step takes a register out of its range. -/
theorem registersStayLegal : Obligations.RegistersStayLegal := fun _ _ hs ht =>
  stepKeeps_registersLegal.step (fun _ _ h => h) hs ht

end Sys2Proof.Machine
end

section
/-! SUPPORT. The host port and the reset phases: what a register write leaves of the port, the power phase and the open item;
and the statements that every step keeps the port sound and every block at its reset values through a reset. -/

namespace Sys2Proof.Machine

/-! ## What a register write leaves -/

/-- What a data byte leaves whatever register it is written to; of the transfer, staging is kept, discarded or takes the
byte, and the open item is kept or discarded. -/
structure State.WriteKept (s t : State) : Prop where
  power : t.power = s.power
  adrPins : t.adrPins = s.adrPins
  pending : t.pending = s.pending
  reading : t.evq.reading = s.evq.reading ∨ t.evq.reading = none
  staging : t.port.staging = s.port.staging ∨ t.port.staging = [] ∨
    ∃ (n : NodeIx) (i : ByteIx) (b : Byte), t.port.staging = s.port.staging.write (outputPos n i) b

theorem State.WriteKept.refl (s : State) : s.WriteKept s := ⟨rfl, rfl, rfl, .inl rfl, .inl rfl⟩

theorem State.CommandKept.write {s t : State} (h : s.CommandKept t) : s.WriteKept t :=
  ⟨h.power, h.adrPins, h.pending, h.reading, h.staging.imp id .inl⟩

theorem State.HostSideKept.write {s t : State} (h : s.HostSideKept t) : s.WriteKept t := h.command.write

/-- What belongs to the host is kept by an effect that follows a write. -/
theorem State.HostSideKept.afterWrite {s u t : State} (h : u.HostSideKept t) (hu : s.WriteKept u) : s.WriteKept t := by
  refine ⟨h.power.trans hu.power, h.adrPins.trans hu.adrPins, h.pending.trans hu.pending, ?_, ?_⟩
  · rw [h.reading]
    exact hu.reading
  · rw [h.port]
    exact hu.staging

/-- A register of its own that takes the byte or refuses it. -/
theorem State.writeKept_writeChecked {s t : State} (legal : Bool) (ht : s.WriteKept t) :
    s.WriteKept (s.writeChecked legal t) := by
  unfold State.writeChecked
  split
  · exact ht
  · exact ⟨rfl, rfl, rfl, .inl rfl, .inl rfl⟩

theorem State.writeKept_withHandle (s : State) (h : Byte) {f : State → TxnIx → State} (hf : ∀ e, s.WriteKept (f s e)) :
    s.WriteKept (s.withHandle h f) := by
  unfold State.withHandle
  split
  · exact hf _
  · exact ⟨rfl, rfl, rfl, .inl rfl, .inl rfl⟩

theorem State.writeKept_submitEntry (s : State) (e : TxnIx) : s.WriteKept (s.submitEntry e) := by
  unfold State.submitEntry
  dsimp only
  split
  · exact ⟨rfl, rfl, rfl, .inl rfl, .inl rfl⟩
  · split
    · exact (State.kept_idleBoundary _).afterWrite ⟨rfl, rfl, rfl, .inl rfl, .inl rfl⟩
    · exact ⟨rfl, rfl, rfl, .inl rfl, .inl rfl⟩

theorem State.writeKept_cancelEntry (s : State) (e : TxnIx) : s.WriteKept (s.cancelEntry e) := by
  unfold State.cancelEntry
  split
  case h_3 => exact (s.kept_cancelQueued e).write
  case h_4 => exact (State.kept_suppressTxn _ e).afterWrite ⟨rfl, rfl, rfl, .inl rfl, .inl rfl⟩
  all_goals exact ⟨rfl, rfl, rfl, .inl rfl, .inl rfl⟩

theorem State.writeKept_writeSlot (s : State) (k : SlotIx) (second : Bool) (b : Byte) :
    s.WriteKept (s.writeSlot k second b) := by
  rw [State.writeSlot_eq]
  dsimp only
  split
  · split
    · exact (State.kept_idleBoundary _).afterWrite ⟨rfl, rfl, rfl, .inl rfl, .inl rfl⟩
    · exact ⟨rfl, rfl, rfl, .inl rfl, .inl rfl⟩
  · exact ⟨rfl, rfl, rfl, .inl rfl, .inl rfl⟩

/-- What a data byte leaves, whatever register it is written to. -/
theorem State.writeKept_writeReg (s : State) (r : Reg) (b : Byte) : s.WriteKept (s.writeReg r b) := by
  cases r with
  | cmd => exact (s.commandKept_command b).write
  | startSource =>
    show s.WriteKept (s.writeSource b)
    unfold State.writeSource
    repeat' split
    all_goals exact ⟨rfl, rfl, rfl, .inl rfl, .inl rfl⟩
  | syncEdge =>
    show s.WriteKept (s.writeSyncEdge b)
    unfold State.writeSyncEdge
    repeat' split
    all_goals exact ⟨rfl, rfl, rfl, .inl rfl, .inl rfl⟩
  | linkMode =>
    show s.WriteKept (s.writeLinkMode b)
    unfold State.writeLinkMode
    split <;> exact ⟨rfl, rfl, rfl, .inl rfl, .inl rfl⟩
  | periodLow =>
    show s.WriteKept (s.writePeriodLow b)
    unfold State.writePeriodLow
    dsimp only
    split <;> exact ⟨rfl, rfl, rfl, .inl rfl, .inl rfl⟩
  | schedLen => exact State.writeKept_writeChecked _ ⟨rfl, rfl, rfl, .inl rfl, .inl rfl⟩
  | retryLimit => exact State.writeKept_writeChecked _ ⟨rfl, rfl, rfl, .inl rfl, .inl rfl⟩
  | offlineThreshold => exact State.writeKept_writeChecked _ ⟨rfl, rfl, rfl, .inl rfl, .inl rfl⟩
  | reprobeInterval => exact State.writeKept_writeChecked _ ⟨rfl, rfl, rfl, .inl rfl, .inl rfl⟩
  | evqPolicy =>
    show s.WriteKept (s.writePolicy b)
    unfold State.writePolicy
    repeat' split
    all_goals exact ⟨rfl, rfl, rfl, .inl rfl, .inl rfl⟩
  | attnLevel => exact State.writeKept_writeChecked _ ⟨rfl, rfl, rfl, .inl rfl, .inl rfl⟩
  | attnMask => exact State.writeKept_writeChecked _ ⟨rfl, rfl, rfl, .inl rfl, .inl rfl⟩
  | txnSubmit => exact s.writeKept_withHandle b s.writeKept_submitEntry
  | txnCancel => exact s.writeKept_withHandle b s.writeKept_cancelEntry
  | txnRelease =>
    refine s.writeKept_withHandle b fun e => ?_
    unfold State.releaseEntry
    split <;> exact ⟨rfl, rfl, rfl, .inl rfl, .inl rfl⟩
  | profile p f =>
    show s.WriteKept (s.writeProfile p f b)
    unfold State.writeProfile
    repeat' split
    all_goals exact ⟨rfl, rfl, rfl, .inl rfl, .inl rfl⟩
  | nodeConfig n f =>
    show s.WriteKept (s.writeNodeConfig n f b)
    unfold State.writeNodeConfig
    repeat' split
    all_goals exact ⟨rfl, rfl, rfl, .inl rfl, .inl rfl⟩
  | slot k second => exact s.writeKept_writeSlot k second b
  | output n i => exact ⟨rfl, rfl, rfl, .inl rfl, .inr (.inr ⟨n, i, b, rfl⟩)⟩
  | txn e f =>
    show s.WriteKept (s.writeTxn e f b)
    unfold State.writeTxn
    repeat' split
    all_goals exact ⟨rfl, rfl, rfl, .inl rfl, .inl rfl⟩
  | _ => exact ⟨rfl, rfl, rfl, .inl rfl, .inl rfl⟩

/-- The power phase, the strap pins and the waiting commands are no part of a read. -/
theorem State.readEffect_kept (s : State) (r : Reg) :
    (s.readEffect r).power = s.power ∧ (s.readEffect r).adrPins = s.adrPins ∧ (s.readEffect r).pending = s.pending := by
  unfold State.readEffect
  split
  case h_8 =>
    unfold State.allocate
    split <;> exact ⟨rfl, rfl, rfl⟩
  all_goals exact ⟨rfl, rfl, rfl⟩

/-- The commit leaves the open item, the power phase, the strap pins and the waiting commands. -/
theorem State.commitStaging_kept (s : State) : s.commitStaging.power = s.power ∧ s.commitStaging.adrPins = s.adrPins ∧
    s.commitStaging.pending = s.pending ∧ s.commitStaging.evq.reading = s.evq.reading := by
  unfold State.commitStaging
  dsimp only
  split
  · have h := State.kept_idleBoundary { s with
      nodes := tabulate 16 fun n => (s.node n).commit (committed s.port.staging n (s.node n).output)
      port := { s.port with staging := [] } }
    exact ⟨h.power, h.adrPins, h.pending, h.reading⟩
  · exact ⟨rfl, rfl, rfl, rfl⟩

/-! ## Every command answers -/

theorem stepKeeps_pending (l : List Instr) : StepKeeps fun s => s.pending = l where
  supplyByte s hs _ := (s.readEffect_kept _).2.2.trans hs
  handOverRetry s hs := s.kept_handOverRetry.pending.trans hs
  takeAddress s b hs := by
    have hend : s.endTransfer.pending = s.pending := by
      unfold State.endTransfer
      split
      · rfl
      · split
        · split
          · rfl
          · exact s.commitStaging_kept.2.2.1
        · rfl
    unfold State.takeAddress
    dsimp only
    split <;> exact hend.trans hs
  receiveByte s b hs := by
    unfold State.receiveByte
    split <;> try exact hs
    exact (s.writeKept_writeReg _ b).pending.trans hs
  endTransfer s hs := by
    unfold State.endTransfer
    split
    · exact hs
    · split
      · split
        · exact hs
        · exact s.commitStaging_kept.2.2.1.trans hs
      · exact hs
  abortTransfer s hs := by
    unfold State.abortTransfer
    repeat' split
    all_goals exact hs
  notAcknowledge s hs _ := by
    unfold State.notAcknowledge
    split <;> exact hs
  deviceReset s c hs := hs
  endDeviceReset s straps hs := by
    unfold State.endDeviceReset
    split <;> exact hs
  endInit s hs := by
    unfold State.endInit
    split <;> exact hs
  timerExpiry s hs := by
    unfold State.timerExpiry
    split
    · exact (State.kept_cycleStart _).pending.trans hs
    · exact hs
  syncEdge s e hs := by
    unfold State.syncEdge
    split
    · exact s.kept_cycleStart.pending.trans hs
    · exact hs
  assertSelect s hs := s.kept_assertSelect.pending.trans hs
  completion s d o hs := (s.kept_completion d o).pending.trans hs
  reachDelay s hs := hs
  tickEvq s hs := hs
  rest s hs := hs
  countDown s k hs _ _ := hs
  countInit s why k hs _ _ := hs

/-- Every command has a next state. -/
theorem exec_next (c : Instr) (s : State) : ∃ t, exec c s = .next t := by
  cases c <;> exact ⟨_, rfl⟩

/-- Settles O2: no row refuses or faults, and no part of a step touches the waiting commands. -/
theorem everyCommandAnswers : Obligations.EveryCommandAnswers := by
  intro c s
  obtain ⟨t, ht⟩ := exec_next c s
  exact ⟨t, ht, (stepKeeps_pending s.pending).exec rfl ht⟩

/-! ## The port -/

/-- The port's invariant concerns the port and the open item alone. -/
theorem State.portSound_congr {s t : State} (hport : t.port = s.port) (hreading : t.evq.reading = s.evq.reading) :
    t.portSound = s.portSound := by
  simp only [State.portSound, hport, hreading]

theorem State.stagingSound_congr {s t : State} (hstaging : t.port.staging = s.port.staging) :
    t.stagingSound = s.stagingSound := by
  simp only [State.stagingSound, hstaging]

/-- The port holds only what its phase can hold, and its staging is canonical. -/
def State.PortOk (s : State) : Prop := s.portSound = true ∧ s.stagingSound = true

theorem State.PortOk.congr {s t : State} (h : s.PortOk) (hport : t.port = s.port)
    (hreading : t.evq.reading = s.evq.reading) : t.PortOk := by
  unfold State.PortOk
  rwa [State.portSound_congr hport hreading, State.stagingSound_congr (congrArg Port.staging hport)]

/-- What leaves the host's side leaves the port sound. -/
theorem State.HostSideKept.portOk {s t : State} (h : s.HostSideKept t) (hs : s.PortOk) : t.PortOk :=
  hs.congr h.port h.reading

/-- A byte is due only in a read transfer that goes on. -/
theorem State.PortOk.phase_of_due {s : State} (h : s.PortOk) (hd : s.port.readDue = true) : s.port.phase = .readData := by
  have hport := h.1
  unfold State.portSound at hport
  cases hp : s.port.phase <;> simp_all

theorem State.readEffect_port (s : State) (r : Reg) :
    (s.readEffect r).port.phase = s.port.phase ∧ (s.readEffect r).port.staging = s.port.staging ∧
    (s.readEffect r).port.softMark = s.port.softMark ∧ (s.readEffect r).port.heldHigh = s.port.heldHigh := by
  unfold State.readEffect
  split
  case h_8 => rw [State.allocate_port]; exact ⟨rfl, rfl, rfl, rfl⟩
  all_goals exact ⟨rfl, rfl, rfl, rfl⟩

/-- A read transfer goes on holding no staging, mark or pointer byte. -/
theorem State.PortOk.supplyByte {s : State} (h : s.PortOk) (hp : s.port.phase = .readData) : s.supplyByte.PortOk := by
  obtain ⟨hport, hstaging⟩ := h
  obtain ⟨hphase, hstage, hmark, hheld⟩ := s.readEffect_port (regAt s.port.pointer)
  refine ⟨?_, ?_⟩
  · simp_all [State.portSound, State.supplyByte]
  · exact (State.stagingSound_congr hstage).trans hstaging

/-- A port released with no item open is sound. -/
theorem State.portOk_release {s : State} (hreading : s.evq.reading = none) : (s.modPort Port.release).PortOk := by
  refine ⟨?_, rfl⟩
  simp [State.portSound, Port.release, hreading]

/-- No item is open in a write transfer. -/
theorem State.PortOk.reading_of_writing {s : State} (h : s.PortOk) (hw : s.port.phase.writing = true) :
    s.evq.reading = none := by
  have hport := h.1
  unfold State.portSound at hport
  cases hp : s.port.phase <;> simp_all [PortPhase.writing]

theorem State.portOk_atReset (power : Power) (pins : AdrPins) (l : List Instr) : (State.atReset power pins l).PortOk :=
  ⟨rfl, rfl⟩

theorem State.PortOk.endTransfer {s : State} (h : s.PortOk) : s.endTransfer.PortOk := by
  unfold State.endTransfer
  split
  · exact h
  · split
    · next hw =>
      split
      · exact State.portOk_atReset _ _ _
      · exact State.portOk_release (s.commitStaging_kept.2.2.2.trans (h.reading_of_writing hw))
    · exact State.portOk_release rfl

theorem State.endTransfer_phase (s : State) : s.endTransfer.port.phase = .idle := by
  unfold State.endTransfer
  split
  · next h => exact h
  · split
    · split <;> rfl
    · rfl

theorem State.PortOk.takeAddress {s : State} (h : s.PortOk) (b : Byte) : (s.takeAddress b).PortOk := by
  obtain ⟨hport, hstaging⟩ := h.endTransfer
  have hidle := s.endTransfer_phase
  unfold State.takeAddress
  dsimp only
  split
  · refine ⟨?_, rfl⟩
    cases b.getLsbD 0 <;> simp_all [State.portSound, Port.begin]
  · refine ⟨?_, hstaging⟩
    simpa [State.portSound] using hport

/-- A data byte leaves the staging canonical: it is kept, discarded, or takes the byte at a position of the window. -/
theorem State.WriteKept.stagingSound {s t : State} (h : s.WriteKept t) (hs : s.stagingSound = true) :
    t.stagingSound = true := by
  obtain hsame | hnone | ⟨n, i, b, hwrite⟩ := h.staging
  · rwa [State.stagingSound_congr hsame]
  · simp only [State.stagingSound, hnone]
    rfl
  · simp only [State.stagingSound, Bool.and_eq_true] at hs
    simp only [State.stagingSound, hwrite, Bool.and_eq_true]
    have hpos : outputPos n i < 128 := by
      unfold outputPos
      omega
    exact ⟨Memory.wf_write _ _ _ hs.1, Memory.bound_write _ _ _ hpos hs.2⟩

theorem State.PortOk.dataByte {s : State} (h : s.PortOk) (hp : s.port.phase = .writeData) (b : Byte) :
    (s.dataByte b).PortOk := by
  have hkept := s.writeKept_writeReg (regAt s.port.pointer) b
  have hreading : (s.writeReg (regAt s.port.pointer) b).evq.reading = none := by
    rcases hkept.reading with hsame | hnone
    · exact hsame.trans (h.reading_of_writing (by rw [hp]; rfl))
    · exact hnone
  have hport := s.writeReg_port (regAt s.port.pointer) b
  have hsound := h.1
  refine ⟨?_, ?_⟩
  · unfold State.dataByte
    unfold Port.SameTransfer at hport
    simp only [State.portSound, State.modPort_port, State.modPort_evq, hreading]
    rw [hport]
    simp_all [State.portSound]
  · exact (State.stagingSound_congr (s := s.writeReg (regAt s.port.pointer) b) rfl).trans (hkept.stagingSound h.2)

theorem State.PortOk.receiveByte {s : State} (h : s.PortOk) (b : Byte) : (s.receiveByte b).PortOk := by
  obtain ⟨hport, hstaging⟩ := h
  unfold State.receiveByte
  split
  · next hp => exact ⟨by simp_all [State.portSound], hstaging⟩
  · next hp => exact ⟨by simp_all [State.portSound], hstaging⟩
  · next hp => exact State.PortOk.dataByte ⟨hport, hstaging⟩ hp b
  all_goals exact ⟨hport, hstaging⟩

theorem Evq.reachDelay_reading (q : Evq) (delay : Byte) : (q.reachDelay delay).reading = q.reading := by
  unfold Evq.reachDelay
  split <;> rfl

theorem Evq.tick_reading (q : Evq) : q.tick.reading = q.reading := by
  unfold Evq.tick
  split
  · rfl
  · split <;> rfl

theorem stepKeeps_portOk : StepKeeps State.PortOk where
  supplyByte s hs hp := hs.supplyByte (hp.elim hs.phase_of_due id)
  handOverRetry s hs := s.kept_handOverRetry.portOk hs
  takeAddress s b hs := hs.takeAddress b
  receiveByte s b hs := hs.receiveByte b
  endTransfer s hs := hs.endTransfer
  abortTransfer s hs := by
    unfold State.abortTransfer
    split
    · exact hs
    · split
      · exact State.portOk_atReset _ _ _
      · exact State.portOk_release rfl
  notAcknowledge s hs hd := by
    unfold State.notAcknowledge
    split
    · next hp =>
      obtain ⟨hport, hstaging⟩ := hs
      exact ⟨by simp_all [State.portSound], hstaging⟩
    · exact hs
  deviceReset s c _ := State.portOk_atReset _ _ _
  endDeviceReset s straps hs := by
    unfold State.endDeviceReset
    split <;> exact hs
  endInit s hs := by
    unfold State.endInit
    split
    · refine hs.congr rfl ?_
      have happend := congrArg Evq.reading (s.evq.append_registers (Record.ofReset ‹_›))
      exact happend
    · exact hs
  timerExpiry s hs := by
    unfold State.timerExpiry
    split
    · exact (State.kept_cycleStart _).portOk hs
    · exact hs
  syncEdge s e hs := by
    unfold State.syncEdge
    split
    · exact s.kept_cycleStart.portOk hs
    · exact hs
  assertSelect s hs := s.kept_assertSelect.portOk hs
  completion s d o hs := (s.kept_completion d o).portOk hs
  reachDelay s hs := hs.congr rfl (Evq.reachDelay_reading _ _)
  tickEvq s hs := hs.congr rfl (Evq.tick_reading _)
  rest s hs := hs
  countDown s k hs _ _ := hs
  countInit s why k hs _ _ := hs

/-- Settles O5: no part of a step leaves in the port what its phase cannot hold. -/
theorem portStaysSound : Obligations.PortStaysSound := fun _ _ hport hstaging ht =>
  stepKeeps_portOk.step (fun _ _ h => h) (P := State.PortOk) ⟨hport, hstaging⟩ ht

end Sys2Proof.Machine
end

section
/-! SUPPORT. The reset values that every block holds through a reset, and the statement that every step keeps them there. -/

namespace Sys2Proof.Machine

theorem State.heldAtReset_iff (s : State) :
    s.heldAtReset = true ↔ s.power = .running ∨ s = State.atReset s.power s.adrPins s.pending := by
  simp [State.heldAtReset]

theorem State.heldAtReset_running {s : State} (h : s.power = .running) : s.heldAtReset = true :=
  s.heldAtReset_iff.2 (.inl h)

theorem State.heldAtReset_atReset (power : Power) (pins : AdrPins) (l : List Instr) :
    (State.atReset power pins l).heldAtReset = true := (State.heldAtReset_iff _).2 (.inr rfl)

/-- An update keeps the reset values through a reset where it keeps the part running and leaves reset values. -/
theorem State.heldAtReset_update {s : State} {f : State → State} (hs : s.heldAtReset = true)
    (hrunning : s.power = .running → (f s).heldAtReset = true)
    (hreset : ∀ pins l, s.power ≠ .running → (f (State.atReset s.power pins l)).heldAtReset = true) :
    (f s).heldAtReset = true := by
  by_cases hp : s.power = .running
  · exact hrunning hp
  · have heq := (s.heldAtReset_iff.1 hs).resolve_left hp
    rw [heq]
    exact hreset _ _ hp

theorem State.HostSideKept.running {s t : State} (h : s.HostSideKept t) (hp : s.power = .running) :
    t.heldAtReset = true := State.heldAtReset_running (h.power.trans hp)

theorem State.heldAtReset_endTransfer {s : State} (hs : s.heldAtReset = true) : s.endTransfer.heldAtReset = true := by
  refine State.heldAtReset_update hs (fun hp => ?_) fun pins l _ => State.heldAtReset_atReset _ _ _
  unfold State.endTransfer
  split
  · exact hs
  · split
    · split
      · exact State.heldAtReset_atReset _ _ _
      · exact State.heldAtReset_running (s.commitStaging_kept.1.trans hp)
    · exact State.heldAtReset_running hp

theorem stepKeeps_heldAtReset : StepKeeps fun s => s.heldAtReset = true where
  supplyByte s hs hdue := by
    rcases s.heldAtReset_iff.1 hs with hp | heq
    · exact State.heldAtReset_running ((s.readEffect_kept _).1.trans hp)
    · rw [heq] at hdue
      exact absurd hdue (by simp [State.atReset, Port.reset])
  handOverRetry s hs :=
    State.heldAtReset_update hs s.kept_handOverRetry.running fun _ _ _ => State.heldAtReset_atReset _ _ _
  takeAddress s b hs := by
    refine State.heldAtReset_update (f := (·.takeAddress b)) hs (fun hp => ?_) fun pins l hp => ?_
    · have hend := State.heldAtReset_endTransfer hs
      unfold State.takeAddress
      dsimp only
      split
      · next h => exact State.heldAtReset_running h.1
      · rcases (State.heldAtReset_iff _).1 hend with h | h
        · exact State.heldAtReset_running h
        · rw [h]
          exact State.heldAtReset_atReset _ _ _
    · have hend : (State.atReset s.power pins l).endTransfer = State.atReset s.power pins l := rfl
      unfold State.takeAddress
      dsimp only
      rw [hend, if_neg (fun h => hp h.1)]
      exact State.heldAtReset_atReset _ _ _
  receiveByte s b hs := by
    refine State.heldAtReset_update (f := (·.receiveByte b)) hs (fun hp => ?_) fun _ _ _ =>
      State.heldAtReset_atReset _ _ _
    unfold State.receiveByte
    split <;> try exact State.heldAtReset_running hp
    exact State.heldAtReset_running ((s.writeKept_writeReg _ b).power.trans hp)
  endTransfer s hs := State.heldAtReset_endTransfer hs
  abortTransfer s hs := by
    refine State.heldAtReset_update hs (fun hp => ?_) fun _ _ _ => State.heldAtReset_atReset _ _ _
    unfold State.abortTransfer
    split
    · exact hs
    · split
      · exact State.heldAtReset_atReset _ _ _
      · exact State.heldAtReset_running hp
  notAcknowledge s hs _ := by
    refine State.heldAtReset_update hs (fun hp => ?_) fun _ _ _ => State.heldAtReset_atReset _ _ _
    unfold State.notAcknowledge
    split <;> exact State.heldAtReset_running hp
  deviceReset s c _ := State.heldAtReset_atReset _ _ _
  endDeviceReset s straps hs := by
    rcases s.heldAtReset_iff.1 hs with hp | heq
    · unfold State.endDeviceReset
      rw [hp]
      exact hs
    · rw [heq]
      unfold State.endDeviceReset
      split
      · exact State.heldAtReset_atReset (.initializing _ Config.initTicks) { s.adrPins with levels := straps } s.pending
      · exact State.heldAtReset_atReset _ _ _
  endInit s hs := by
    unfold State.endInit
    split
    · exact State.heldAtReset_running rfl
    · exact hs
  timerExpiry s hs := by
    refine State.heldAtReset_update hs (fun hp => ?_) fun _ _ _ => State.heldAtReset_atReset _ _ _
    unfold State.timerExpiry
    split
    · exact (State.kept_cycleStart _).running hp
    · exact hs
  syncEdge s e hs := by
    refine State.heldAtReset_update (f := (·.syncEdge e)) hs (fun hp => ?_) fun _ _ _ => State.heldAtReset_atReset _ _ _
    unfold State.syncEdge
    split
    · exact s.kept_cycleStart.running hp
    · exact hs
  assertSelect s hs :=
    State.heldAtReset_update hs s.kept_assertSelect.running fun _ _ _ => State.heldAtReset_atReset _ _ _
  completion s d o hs :=
    State.heldAtReset_update (f := (·.completion d o)) hs (s.kept_completion d o).running fun _ _ _ =>
      State.heldAtReset_atReset _ _ _
  reachDelay s hs :=
    State.heldAtReset_update (f := fun s => s.modEvq fun q => q.reachDelay s.attn.delay) hs
      (fun hp => State.heldAtReset_running hp) fun _ _ _ => State.heldAtReset_atReset _ _ _
  tickEvq s hs :=
    State.heldAtReset_update (f := (·.modEvq Evq.tick)) hs (fun hp => State.heldAtReset_running hp) fun _ _ _ =>
      State.heldAtReset_atReset _ _ _
  rest s hs :=
    State.heldAtReset_update (f := (·.modLink fun l => { l with rested := true })) hs
      (fun hp => State.heldAtReset_running hp) fun _ _ _ => State.heldAtReset_atReset _ _ _
  countDown s k hs hk _ := by
    rcases s.heldAtReset_iff.1 hs with hp | heq
    · exact State.heldAtReset_running hp
    · rw [heq] at hk
      exact absurd hk (by simp [State.atReset, Engine.reset])
  countInit s why k hs hk _ := by
    have heq := (s.heldAtReset_iff.1 hs).resolve_left (by simp [hk])
    rw [heq]
    exact State.heldAtReset_atReset _ _ _

/-- The reset values do not depend on what commands wait. -/
theorem State.heldAtReset_pending {s : State} (l : List Instr) (hs : s.heldAtReset = true) :
    ({ s with pending := l } : State).heldAtReset = true := by
  rcases s.heldAtReset_iff.1 hs with hp | heq
  · exact State.heldAtReset_running hp
  · rw [heq]
    exact State.heldAtReset_atReset _ _ _

/-- Settles O8: through a reset no part of a step has anything to act on but the reset itself. -/
theorem resetHoldsEveryBlock : Obligations.ResetHoldsEveryBlock := fun _ _ hs ht =>
  stepKeeps_heldAtReset.step (fun _ l h => State.heldAtReset_pending l h) hs ht

end Sys2Proof.Machine
end

section
/-! SUPPORT. The event queue's bounds and its loss state: every event, read, clock and register write keeps them, and the
statement that every step does. -/

namespace Sys2Proof.Machine

/-! ## The invariant, part by part -/

/-- The queue's bounds and its loss state, part by part (R150 to R157, R166). -/
structure Evq.Ok (q : Evq) : Prop where
  length : q.records.length ≤ 32
  lost : q.lost ≤ 65535
  oldest : q.policy = .keepOldest → (q.overflowed = true ↔ 0 < q.lost)
  newest : q.policy = .keepNewest → q.overflowed = false
  kinds : q.kindEnable &&& ~~~(0x01DE : Half) = 0
  age : q.headAge ≤ 255
  sub : q.headSub < 100
  fresh : q.records = [] → q.headAge = 0 ∧ q.headSub = 0
  opened : q.headOpen = true → q.records ≠ []

theorem Evq.sound_iff (q : Evq) : q.sound = true ↔ q.Ok := by
  unfold Evq.sound
  simp only [Bool.and_eq_true, decide_eq_true_eq, Bool.or_eq_true, Bool.not_eq_true', beq_iff_eq]
  constructor
  · rintro ⟨⟨⟨⟨⟨⟨⟨hlen, hlost⟩, hpolicy⟩, hkinds⟩, hage⟩, hsub⟩, hfresh⟩, hopen⟩
    refine ⟨hlen, hlost, fun hp => ?_, fun hp => ?_, hkinds, hage, hsub, fun hr => ?_, fun ho hr => ?_⟩
    · rw [hp] at hpolicy
      simp_all
    · rw [hp] at hpolicy
      simp_all
    · simp_all
    · simp_all
  · rintro ⟨hlen, hlost, hold, hnew, hkinds, hage, hsub, hfresh, hopen⟩
    refine ⟨⟨⟨⟨⟨⟨⟨hlen, hlost⟩, ?_⟩, hkinds⟩, hage⟩, hsub⟩, ?_⟩, ?_⟩
    · cases hp : q.policy
      · have hiff := hold hp
        cases ho : q.overflowed <;> simp_all
      · simp [hnew hp]
    · cases hr : q.records
      · exact .inr (hfresh hr)
      · exact .inl rfl
    · cases ho : q.headOpen
      · exact .inl rfl
      · exact .inr (by simp [hopen ho])

/-! ## Events -/

/-- A merge keeps the number of records. -/
theorem mergeLast_length (ev : Record) : ∀ (l l' : List Record), mergeLast ev l = some l' → l'.length = l.length := by
  intro l
  induction l with
  | nil => intro l' h; cases h
  | cons r rest ih =>
    intro l' h
    unfold mergeLast at h
    split at h
    · next rest' hrest =>
      cases h
      simp [ih rest' hrest]
    · split at h
      · cases h
        rfl
      · cases h

theorem Evq.mergeTarget_length {q : Evq} {ev : Record} {l : List Record} (h : q.mergeTarget ev = some l) :
    l.length = q.records.length := by
  unfold Evq.mergeTarget at h
  split at h
  · split at h
    · next head rest _ hr =>
      obtain ⟨rest', hrest, rfl⟩ := Option.map_eq_some_iff.1 h
      simp [hr, mergeLast_length ev rest rest' hrest]
    · exact mergeLast_length ev _ _ h
  · cases h

theorem succUpTo_le {top n : Nat} (h : n ≤ top) : succUpTo top n ≤ top := by
  unfold succUpTo
  split <;> omega

theorem succUpTo_pos {top n : Nat} (ht : 0 < top) : 0 < succUpTo top n := by
  unfold succUpTo
  split <;> omega

/-- Another list of records of the same length. -/
theorem Evq.Ok.setRecords {q : Evq} (h : q.Ok) {l : List Record} (hl : l.length = q.records.length) :
    ({ q with records := l } : Evq).Ok := by
  have hnil : l = [] ↔ q.records = [] := by rw [← List.length_eq_zero_iff, ← List.length_eq_zero_iff, hl]
  exact { h with
    length := hl ▸ h.length
    fresh := fun hr => h.fresh (hnil.1 hr)
    opened := fun ho hr => h.opened ho (hnil.1 hr) }

theorem Evq.Ok.append {q : Evq} (h : q.Ok) (hl : q.records.length < 32) (ev : Record) : (q.append ev).Ok := by
  have hlen : (q.records ++ [ev]).length ≤ 32 := by
    rw [List.length_append]
    exact hl
  have hne : q.records ++ [ev] ≠ [] := by simp
  unfold Evq.append
  dsimp only
  split
  · exact { h with
      length := hlen, age := Nat.zero_le _, sub := Nat.succ_pos 99
      fresh := fun hr => absurd hr hne
      opened := fun _ => hne }
  · exact { h with
      length := hlen
      fresh := fun hr => absurd hr hne
      opened := fun _ => hne }

/-- A full queue has room for a record once its oldest closed one is discarded. -/
theorem Evq.Ok.discardOldest {q : Evq} (h : q.Ok) (hfull : 32 ≤ q.records.length) :
    q.discardOldest.Ok ∧ q.discardOldest.records.length < 32 := by
  have hle := h.length
  unfold Evq.discardOldest
  split
  · next head second rest _ hr =>
    rw [hr] at hle
    have hlen : (head :: rest).length < 32 := by simpa using hle
    refine ⟨{ h with length := Nat.le_of_lt hlen, fresh := ?_, opened := ?_ }, hlen⟩
    · simp
    · simp
  · next hshort =>
    match hr : q.records with
    | [] => simp [hr] at hfull
    | [_] => simp [hr] at hfull
    | a :: b :: rest => exact absurd hr (hshort a b rest)
  · next head rest ho hr =>
    rw [hr] at hle
    have hlen : rest.length < 32 := by simpa using hle
    refine ⟨{ h with
      length := Nat.le_of_lt hlen, age := Nat.zero_le _, sub := Nat.succ_pos 99, fresh := fun _ => ⟨rfl, rfl⟩
      opened := fun hopen => ?_ }, hlen⟩
    exact absurd (ho.symm.trans hopen) (by decide)
  · next hr =>
    rw [hr] at hfull
    simp at hfull

/-- The loss policy keeps its record of losses in agreement with their count (R153 to R155). -/
theorem Evq.Ok.lose {q : Evq} (h : q.Ok) (hp : q.policy = .keepNewest ∨ q.overflowed = true) : q.lose.Ok := by
  exact { h with
    lost := succUpTo_le h.lost
    oldest := fun ho => by
      have hover := hp.resolve_left (by rw [show q.policy = .keepOldest from ho]; decide)
      exact ⟨fun _ => succUpTo_pos (by decide), fun _ => hover⟩ }

theorem Evq.Ok.dispose {q : Evq} (h : q.Ok) (ev : Record) : (q.dispose ev).Ok := by
  unfold Evq.dispose
  split
  · next ho => exact h.lose (.inr ho.2)
  · split
    · next l hl => exact h.setRecords (Evq.mergeTarget_length hl)
    · split
      · next hroom => exact h.append hroom ev
      · next hfull =>
        split
        · next hp =>
          exact { h with
            lost := succUpTo_le h.lost
            oldest := fun _ => ⟨fun _ => succUpTo_pos (by decide), fun _ => rfl⟩
            newest := fun hn => absurd (hp.symm.trans hn) (by decide) }
        · next hp =>
          obtain ⟨hok, hroom⟩ := (h.lose (.inl hp)).discardOldest (Nat.le_of_not_lt hfull)
          exact hok.append hroom ev

/-! ## Reads and clocks -/

theorem Evq.Ok.close {q : Evq} (h : q.Ok) : ({ q with reading := none } : Evq).Ok :=
  { h with opened := fun ho => absurd ho (by simp [Evq.headOpen]) }

theorem Evq.Ok.finishItem {q : Evq} (h : q.Ok) (item : OpenItem) : (q.finishItem item).Ok := by
  have hclosed := h.close
  unfold Evq.finishItem
  dsimp only
  split
  · exact { hclosed with
      length := by
        have hlen := h.length
        simp only [Evq.restartAge, List.length_tail]
        omega
      age := Nat.zero_le _, sub := Nat.succ_pos 99, fresh := fun _ => ⟨rfl, rfl⟩
      opened := fun ho => absurd ho (by simp [Evq.headOpen, Evq.restartAge]) }
  · next stamp count =>
    refine { hclosed with
      lost := Nat.le_trans (Nat.sub_le _ _) h.lost
      oldest := fun hp => ?_
      newest := fun hp => ?_ }
    · have hiff := h.oldest hp
      simp only [Bool.and_eq_true, beq_iff_eq, bne_iff_ne, ne_eq]
      constructor
      · rintro ⟨-, hne⟩
        omega
      · intro hpos
        exact ⟨⟨hiff.2 (by omega), hp⟩, by omega⟩
    · simp [h.newest hp]
  · exact hclosed

/-- The stored item is begun only where a record is stored. -/
theorem Evq.Ok.stored_current {q : Evq} (h : q.Ok) (cycle : Half) (hs : (q.current cycle).item = .stored) :
    q.records ≠ [] := by
  unfold Evq.current at hs
  split at hs
  · next r hr =>
    refine h.opened ?_
    simp [Evq.headOpen, hr, hs]
  · intro hnil
    unfold Evq.headItem at hs
    rw [hnil] at hs
    cases hp : q.policy
    · cases ho : q.overflowed <;> simp [hp, ho] at hs
    · by_cases hl : 0 < q.lost <;> simp [hp, hl] at hs

theorem Evq.Ok.readByte {q : Evq} (h : q.Ok) (cycle : Half) : (q.readByte cycle).2.Ok := by
  unfold Evq.readByte
  dsimp only
  split
  · exact h.finishItem _
  · refine { h with opened := fun ho => h.stored_current cycle ?_ }
    simpa [Evq.headOpen] using ho

theorem Evq.Ok.tick {q : Evq} (h : q.Ok) : q.tick.Ok := by
  unfold Evq.tick
  split
  · exact h
  · next hne =>
    have hrecords : q.records ≠ [] := by simpa using hne
    split
    · next hsub => exact { h with sub := hsub, fresh := fun hr => absurd hr hrecords }
    · exact { h with age := succUpTo_le h.age, sub := Nat.succ_pos 99, fresh := fun hr => absurd hr hrecords }

theorem Evq.Ok.reachDelay {q : Evq} (h : q.Ok) (delay : Byte) : (q.reachDelay delay).Ok := by
  unfold Evq.reachDelay
  split
  · next hc =>
    simp only [Bool.and_eq_true, Bool.not_eq_true', List.isEmpty_eq_false_iff] at hc
    exact { h with
      age := Nat.le_of_lt_succ delay.isLt
      sub := Nat.succ_pos 99, fresh := fun hr => absurd hr hc.1.1 }
  · exact h

/-! ## Register writes -/

/-- A 16-bit quantity is its two bytes. -/
theorem joinBytes_hi_lo (h : Half) : joinBytes (hiByte h) (loByte h) = h :=
  BitVec.extractLsb'_append_extractLsb' (w := 8) (len := 8)

/-- Only defined kinds are enabled where each byte of the mask holds none but them (R150). -/
theorem kindMask_iff (hi lo : Byte) :
    joinBytes hi lo &&& ~~~(0x01DE : Half) = 0 ↔ hi &&& ~~~Config.kindMaskHigh = 0 ∧ lo &&& ~~~Config.kindMaskLow = 0 := by
  have hmask : ~~~(0x01DE : Half) = ~~~Config.kindMaskHigh ++ ~~~Config.kindMaskLow := by decide
  have hzero : (0 : Half) = (0 : Byte) ++ (0 : Byte) := by decide
  rw [joinBytes, hmask, BitVec.and_append, hzero]
  constructor
  · intro h
    have hleft := congrArg (BitVec.extractLsb' 8 8) h
    have hright := congrArg (BitVec.extractLsb' 0 8) h
    rw [BitVec.extractLsb'_append_eq_left, BitVec.extractLsb'_append_eq_left] at hleft
    rw [BitVec.extractLsb'_append_eq_right, BitVec.extractLsb'_append_eq_right] at hright
    exact ⟨hleft, hright⟩
  · rintro ⟨hleft, hright⟩
    rw [hleft, hright]

/-- A byte of the kind-enable mask replaced by one that holds none but defined kinds. -/
theorem Evq.Ok.setKinds {q : Evq} (h : q.Ok) {hi lo : Byte} (hhi : hi &&& ~~~Config.kindMaskHigh = 0)
    (hlo : lo &&& ~~~Config.kindMaskLow = 0) : ({ q with kindEnable := joinBytes hi lo } : Evq).Ok :=
  { h with kinds := (kindMask_iff hi lo).2 ⟨hhi, hlo⟩ }

theorem Evq.Ok.kindBytes {q : Evq} (h : q.Ok) :
    hiByte q.kindEnable &&& ~~~Config.kindMaskHigh = 0 ∧ loByte q.kindEnable &&& ~~~Config.kindMaskLow = 0 := by
  rw [← kindMask_iff, joinBytes_hi_lo]
  exact h.kinds

theorem masked_and_not (b m : Byte) : (b &&& m) &&& ~~~m = 0 := by
  rw [BitVec.and_assoc, BitVec.and_not_self]
  exact BitVec.and_zero

theorem Evq.Ok.flush {q : Evq} (h : q.Ok) : q.flush.Ok where
  length := Nat.zero_le _
  lost := Nat.zero_le _
  oldest _ := by simp [Evq.flush, Evq.restartAge]
  newest _ := rfl
  kinds := h.kinds
  age := Nat.zero_le _
  sub := Nat.succ_pos 99
  fresh _ := ⟨rfl, rfl⟩
  opened ho := absurd ho (by simp [Evq.headOpen, Evq.flush, Evq.restartAge])

theorem Evq.ok_reset : Evq.reset.Ok := (Evq.sound_iff _).1 (by decide)

/-! ## The queue across the operations of the link -/

/-- A sound queue stays sound from `s` to `t`. -/
def State.QueueKept (s t : State) : Prop := s.evq.Ok → t.evq.Ok

theorem State.QueueKept.trans {s t u : State} (h : s.QueueKept t) (k : t.QueueKept u) : s.QueueKept u := fun hs => k (h hs)

theorem State.QueueKept.of_eq {s t : State} (h : t.evq = s.evq) : s.QueueKept t := fun hs => h ▸ hs

theorem State.queueKept_emit (s : State) (k : EventKind) (n a b : Byte) : s.QueueKept (s.emit k n a b) := by
  unfold State.emit
  split
  · exact fun h => h.dispose _
  · exact id

theorem State.queueKept_emits (es : List Event) : ∀ s : State, s.QueueKept (s.emits es) := by
  induction es with
  | nil => exact fun _ => id
  | cons e es ih => exact fun s => (s.queueKept_emit _ _ _ _).trans (ih _)

theorem State.queueKept_enterState (s : State) (n : NodeIx) (x : NodeState) : s.QueueKept (s.enterState n x) := by
  rw [State.enterState_eq]
  exact State.queueKept_emits _ (s.modNode n _)

theorem State.queueKept_compareAlert (s : State) (n : NodeIx) (r : Completion) : s.QueueKept (s.compareAlert n r) := by
  rw [State.compareAlert_eq]
  exact State.queueKept_emits _ (s.modNode n _)

theorem State.queueKept_storeInput (s : State) (n : NodeIx) (p : List Byte) : s.QueueKept (s.storeInput n p) := by
  have hchange : ∀ (t : State) (old : Vector Byte 8), t.QueueKept (t.detectChange n old) := by
    intro t old
    unfold State.detectChange
    dsimp only
    split
    · exact id
    · split
      · exact id
      · exact t.queueKept_emit _ _ _ _
  have hmatch : ∀ t : State, t.QueueKept (t.detectMatch n) := by
    intro t
    unfold State.detectMatch
    dsimp only
    split
    · split
      · exact State.queueKept_emit (t.modNode n _) _ _ _ _
      · exact id
    · exact id
  exact (hchange (s.modNode n _) _).trans (hmatch _)

theorem State.queueKept_enterOffline (s : State) (n : NodeIx) : s.QueueKept (s.enterOffline n) :=
  State.queueKept_enterState (s.modNode n _) n .offline

theorem State.queueKept_evaluateCyclic (s : State) (n : NodeIx) (r : Completion) :
    s.QueueKept (s.evaluateCyclic n r) := by
  unfold State.evaluateCyclic
  split
  · refine (s.queueKept_storeInput n r.payload).trans ?_
    unfold State.cyclicOk
    dsimp only
    split
    · exact State.queueKept_enterState (State.modNode _ n _) n .online
    · exact id
  · split
    · unfold State.cyclicFailed
      dsimp only
      split
      · exact State.queueKept_enterOffline (s.modNode n _) n
      · split
        · exact State.queueKept_enterState (s.modNode n _) n .suspect
        · exact id
    · exact id

theorem State.queueKept_evaluateProbe (s : State) (n : NodeIx) (r : Completion) : s.QueueKept (s.evaluateProbe n r) := by
  unfold State.evaluateProbe
  split
  · unfold State.probeOk
    dsimp only
    split
    · exact State.queueKept_enterState (State.modNode (State.modNode (s.report n _) n _) n _) n .online
    · exact State.queueKept_enterState (State.modNode (State.modNode (s.report n _) n _) n _) n .mismatch
  · split
    · unfold State.probeFailed
      dsimp only
      split
      · exact id
      · split
        · exact State.queueKept_enterOffline (s.modNode n _) n
        · exact id
    · exact id

theorem State.queueKept_supervise (s : State) (r : Completion) : s.QueueKept (s.supervise r) := by
  unfold State.supervise
  dsimp only
  have h : s.QueueKept ((s.recordOutcome r.node r).compareAlert r.node r) :=
    State.queueKept_compareAlert (s.recordOutcome r.node r) r.node r
  split
  · exact h.trans (State.queueKept_evaluateCyclic _ _ _)
  · exact h.trans (State.queueKept_evaluateProbe _ _ _)

theorem State.queueKept_disableNode (s : State) (n : NodeIx) : s.QueueKept (s.disableNode n) :=
  State.queueKept_enterState (s.modNode n _) n .disabled

theorem State.queueKept_reprobeNode (s : State) (n : NodeIx) : s.QueueKept (s.reprobeNode n) :=
  State.queueKept_enterState (s.modNode n _) n .probing

theorem State.queueKept_endTxn (s : State) (e : TxnIx) (r : Completion) : s.QueueKept (s.endTxn e r) := by
  have hident : s.QueueKept (s.superviseIdentTxn r) := by
    unfold State.superviseIdentTxn
    dsimp only
    split
    · exact id
    · exact State.queueKept_enterState (State.modNode (s.report r.node _) r.node _) r.node .mismatch
  unfold State.endTxn
  dsimp only
  split
  · exact hident.trans (State.queueKept_emit (State.modTxn _ e _) _ _ _ _)
  · exact State.queueKept_emit (s.modTxn e _) _ _ _ _

theorem State.queueKept_reportDropped (s : State) : s.QueueKept s.reportDropped := by
  unfold State.reportDropped
  split
  · exact s.queueKept_emit _ _ _ _
  · exact id

theorem State.queueKept_enterStopped (s : State) : s.QueueKept s.enterStopped := by
  rw [State.enterStopped_eq]
  exact State.queueKept_emits _ (s.modEngine _)

theorem State.queueKept_endCycle (s : State) : s.QueueKept s.endCycle :=
  (State.queueKept_emit (s.modEngine _) _ _ _ _).trans (State.queueKept_reportDropped _)

theorem State.clearDueFor_evq (s : State) (op : LinkOp) (n : NodeIx) : (s.clearDueFor op n).evq = s.evq := by
  rw [State.clearDueFor_eq]
  rfl

theorem State.queueKept_handOver (s : State) (w : WorkItem) : s.QueueKept (s.handOver w) :=
  .of_eq (s.clearDueFor_evq w.op w.node)

theorem State.queueKept_handOverRetry (s : State) : s.QueueKept s.handOverRetry := by
  unfold State.handOverRetry
  split
  · split
    · split
      · exact id
      · exact s.queueKept_handOver _
    · exact id
  · exact id

theorem State.queueKept_steps : ChoiceSteps State.QueueKept where
  refl _ := id
  trans _ _ _ := .trans
  start s _ _ _ := s.queueKept_handOver _
  mark _ _ := id
  cursor _ _ := id
  activate _ _ _ := id
  unavailable s e rest := State.queueKept_emit (State.modTxn { s with order := rest } e _) _ _ _ _
  endCycle s _ := s.queueKept_endCycle

theorem State.queueKept_choose (s : State) : s.QueueKept s.choose := State.queueKept_steps.choose s

theorem State.queueKept_idleBoundary (s : State) : s.QueueKept s.idleBoundary := State.queueKept_steps.idleBoundary s

theorem State.queueKept_cycleStart (s : State) : s.QueueKept s.cycleStart := by
  unfold State.cycleStart
  split
  · exact s.beginCycle.queueKept_idleBoundary
  all_goals exact id

theorem State.queueKept_completePending (s : State) (w : Awaited) : s.QueueKept (s.completePending w) := by
  unfold State.completePending
  split <;> exact id

theorem State.queueKept_finishWork (s : State) (w : WorkItem) (r : Completion) : s.QueueKept (s.finishWork w r) := by
  have howner : ∀ t : State, t.QueueKept (t.ownerEvaluates w.cls r) := by
    intro t
    unfold State.ownerEvaluates
    split
    · exact t.queueKept_endTxn _ _
    all_goals exact t.queueKept_supervise r
  have hcommand : ∀ t : State, t.QueueKept (t.completeNodeCmd w) := by
    intro t
    unfold State.completeNodeCmd
    split
    · exact id
    · exact (t.queueKept_disableNode _).trans (State.queueKept_completePending _ _)
    · exact (t.queueKept_reprobeNode _).trans (State.queueKept_completePending _ _)
  have hstop : ∀ t : State, t.QueueKept t.stopIfDraining := by
    intro t
    unfold State.stopIfDraining
    split
    · exact t.queueKept_enterStopped.trans (State.queueKept_completePending _ _)
    · exact id
  exact ((howner (s.modLink _)).trans (hcommand _)).trans (hstop _)

theorem State.queueKept_completion (s : State) (d : List Byte) (o : RetryOrder) : s.QueueKept (s.completion d o) := by
  have hattempt : ∀ (r : Completion) (c : WorkClass),
      s.QueueKept (((s.modLink fun l => { l with rested := false }).updateToggle r).countAttempt c) := by
    intro r c
    refine .of_eq ?_
    unfold State.countAttempt State.updateToggle
    split <;> split <;> rfl
  unfold State.completion
  split
  · split
    · split
      · unfold State.completeAttempt
        dsimp only
        split
        · split
          · exact (hattempt _ _).trans (State.queueKept_handOverRetry (State.modLink _ _))
          · exact hattempt _ _
        · exact (hattempt _ _).trans ((State.queueKept_finishWork _ _ _).trans (State.queueKept_choose _))
      · exact id
    · exact id
  · exact id

theorem State.queueKept_withdrawRetry (s : State) : s.QueueKept s.withdrawRetry := by
  unfold State.withdrawRetry
  split
  · split
    · exact (s.queueKept_finishWork _ _).trans (State.queueKept_choose _)
    · exact id
  · exact id

theorem State.queueKept_assertSelect (s : State) : s.QueueKept s.assertSelect := by
  unfold State.assertSelect
  repeat' split
  all_goals exact id

/-! ## The queue across commands and register writes -/

theorem State.queueKept_probeBoundary (s : State) (n : NodeIx) : s.QueueKept (s.probeBoundary n) := by
  unfold State.probeBoundary
  split
  · exact s.queueKept_idleBoundary
  · exact id

theorem State.queueKept_cmdStartScan (s : State) : s.QueueKept s.cmdStartScan := by
  unfold State.cmdStartScan
  split
  · dsimp only
    have hbegun := State.queueKept_emit ((s.answer .ok).modEngine fun g =>
      { g with latchedLen := g.schedLen.toNat }).enterWaiting .scanState Config.noNode EngineState.waiting.code 1
    split
    · exact hbegun.trans (State.queueKept_idleBoundary (State.beginCycle (State.modEngine _ _)))
    · exact hbegun.trans (State.queueKept_idleBoundary _)
  · exact id

theorem State.queueKept_cmdStopScan (s : State) : s.QueueKept s.cmdStopScan := by
  unfold State.cmdStopScan
  split
  · exact id
  · exact id
  · exact (s.answer .ok).queueKept_enterStopped
  · split
    · exact (s.answer .ok).queueKept_enterStopped
    · exact State.queueKept_withdrawRetry (State.suppress (State.modEngine (s.answerPending _) _))

theorem State.queueKept_pendNodeCmd (s : State) (c : NodeCmd) : s.QueueKept (s.pendNodeCmd c) :=
  State.queueKept_withdrawRetry ((s.answerPending _).modLink _)

theorem State.queueKept_nodeCommands (s : State) (n : NodeIx) :
    s.QueueKept (s.nodeEnable n) ∧ s.QueueKept (s.nodeDisable n) ∧ s.QueueKept (s.nodeReprobe n) := by
  refine ⟨?_, ?_, ?_⟩
  · unfold State.nodeEnable
    split
    · exact id
    · split
      · exact (State.queueKept_enterState ((s.answer .ok).modNode n _) n .probing).trans
          (State.queueKept_probeBoundary _ n)
      · exact id
  · unfold State.nodeDisable
    split
    · exact id
    · split
      · exact s.queueKept_pendNodeCmd _
      · exact (s.answer .ok).queueKept_disableNode n
  · unfold State.nodeReprobe
    split
    · exact id
    · split
      · split
        · exact id
        · exact s.queueKept_pendNodeCmd _
      · exact ((s.answer .ok).queueKept_reprobeNode n).trans (State.queueKept_probeBoundary _ n)

theorem State.queueKept_cmdNode (s : State) {f : State → NodeIx → State} (hf : ∀ n, s.QueueKept (f s n)) :
    s.QueueKept (s.cmdNode f) := by
  unfold State.cmdNode
  split
  · exact hf _
  · exact id

/-- The CLEARED record is the only one of a queue that has just been flushed (R162). -/
theorem Evq.Ok.cleared {q : Evq} (h : q.Ok) : ({ q.flush with records := [Record.cleared] } : Evq).Ok :=
  { h.flush with
    length := Nat.succ_le_succ (Nat.zero_le 31)
    fresh := fun hr => absurd hr (by simp)
    opened := fun _ => by simp }

theorem State.queueKept_command (s : State) (b : Byte) : s.QueueKept (s.command b) := by
  unfold State.command
  split
  · exact s.queueKept_cmdStartScan
  split
  · exact s.queueKept_cmdStopScan
  split
  · unfold State.cmdTriggerCycle
    split
    · exact id
    · exact (s.answer .ok).queueKept_cycleStart
  split
  · exact s.queueKept_cmdNode fun n => (s.queueKept_nodeCommands n).1
  split
  · exact s.queueKept_cmdNode fun n => (s.queueKept_nodeCommands n).2.1
  split
  · exact s.queueKept_cmdNode fun n => (s.queueKept_nodeCommands n).2.2
  split
  · exact Evq.Ok.flush
  split
  · exact Evq.Ok.cleared
  split
  · exact id
  · exact id

/-- The loss policy is changed only where nothing is stored or lost (R160). -/
theorem State.queueKept_writePolicy (s : State) (b : Byte) : s.QueueKept (s.writePolicy b) := by
  unfold State.writePolicy
  split
  · exact id
  · next hopen =>
    split
    · intro h
      have hnone : s.evq.lost = 0 ∧ s.evq.overflowed = false := by
        have hold := h.oldest
        have hnew := h.newest
        cases hp : s.evq.policy <;> simp_all [Evq.reportPending]
      exact { h with
        oldest := fun _ => by simp [hnone.1, hnone.2]
        newest := fun _ => hnone.2 }
    · exact id

theorem State.queueKept_withHandle (s : State) (h : Byte) {f : State → TxnIx → State} (hf : ∀ e, s.QueueKept (f s e)) :
    s.QueueKept (s.withHandle h f) := by
  unfold State.withHandle
  split
  · exact hf _
  · exact id

theorem State.queueKept_writeSlot (s : State) (k : SlotIx) (second : Bool) (b : Byte) :
    s.QueueKept (s.writeSlot k second b) := by
  rw [State.writeSlot_eq]
  dsimp only
  split
  · split
    · exact State.queueKept_idleBoundary (s.setSlot k _)
    · exact id
  · exact id

theorem State.queueKept_submitEntry (s : State) (e : TxnIx) : s.QueueKept (s.submitEntry e) := by
  unfold State.submitEntry
  dsimp only
  split
  · exact id
  · split
    · exact State.queueKept_idleBoundary { s.modTxn e _ with order := s.order ++ [e] }
    · exact id

theorem State.queueKept_cancelEntry (s : State) (e : TxnIx) : s.QueueKept (s.cancelEntry e) := by
  unfold State.cancelEntry
  split
  case h_3 => exact State.queueKept_emit (State.modTxn { s with order := _ } e _) _ _ _ _
  case h_4 =>
    unfold State.suppressTxn
    split
    · split
      · split
        · exact State.queueKept_withdrawRetry (State.suppress (s.modTxn e _))
        · exact id
      · exact id
    · exact id
  all_goals exact id

/-- A data byte keeps the queue sound, whatever register it is written to. -/
theorem State.queueKept_writeReg (s : State) (r : Reg) (b : Byte) : s.QueueKept (s.writeReg r b) := by
  have hchecked : ∀ (legal : Bool) (t : State), s.QueueKept t → s.QueueKept (s.writeChecked legal t) := by
    intro legal t ht
    unfold State.writeChecked
    split
    · exact ht
    · exact id
  cases r with
  | cmd => exact s.queueKept_command b
  | startSource =>
    show s.QueueKept (s.writeSource b)
    unfold State.writeSource
    repeat' split
    all_goals exact id
  | syncEdge =>
    show s.QueueKept (s.writeSyncEdge b)
    unfold State.writeSyncEdge
    repeat' split
    all_goals exact id
  | linkMode =>
    show s.QueueKept (s.writeLinkMode b)
    unfold State.writeLinkMode
    split <;> exact id
  | periodLow =>
    show s.QueueKept (s.writePeriodLow b)
    unfold State.writePeriodLow
    dsimp only
    split <;> exact id
  | schedLen => exact hchecked _ _ id
  | retryLimit => exact hchecked _ _ id
  | offlineThreshold => exact hchecked _ _ id
  | reprobeInterval => exact hchecked _ _ id
  | evqPolicy => exact s.queueKept_writePolicy b
  | kindHigh => exact fun h => h.setKinds (masked_and_not b _) h.kindBytes.2
  | kindLow => exact fun h => h.setKinds h.kindBytes.1 (masked_and_not b _)
  | attnLevel => exact hchecked _ _ id
  | attnMask => exact hchecked _ _ id
  | txnSubmit => exact s.queueKept_withHandle b s.queueKept_submitEntry
  | txnCancel => exact s.queueKept_withHandle b s.queueKept_cancelEntry
  | txnRelease =>
    refine s.queueKept_withHandle b fun e => ?_
    unfold State.releaseEntry
    split <;> exact id
  | profile p f =>
    show s.QueueKept (s.writeProfile p f b)
    unfold State.writeProfile
    repeat' split
    all_goals exact id
  | nodeConfig n f =>
    show s.QueueKept (s.writeNodeConfig n f b)
    unfold State.writeNodeConfig
    repeat' split
    all_goals exact id
  | slot k second => exact s.queueKept_writeSlot k second b
  | txn e f =>
    show s.QueueKept (s.writeTxn e f b)
    unfold State.writeTxn
    repeat' split
    all_goals exact id
  | _ => exact id

/-! ## The queue across a step -/

theorem State.queueKept_readEffect (s : State) (r : Reg) : s.QueueKept (s.readEffect r) := by
  unfold State.readEffect
  split
  case h_7 => exact fun h => h.readByte _
  case h_8 =>
    unfold State.allocate
    split <;> exact id
  all_goals exact id

theorem State.queueKept_commitStaging (s : State) : s.QueueKept s.commitStaging := by
  unfold State.commitStaging
  dsimp only
  split
  · exact State.queueKept_idleBoundary { s with
      nodes := tabulate 16 fun n => (s.node n).commit (committed s.port.staging n (s.node n).output)
      port := { s.port with staging := [] } }
  · exact id

theorem State.queueKept_endTransfer (s : State) : s.QueueKept s.endTransfer := by
  unfold State.endTransfer
  split
  · exact id
  · split
    · split
      · exact fun _ => Evq.ok_reset
      · exact s.queueKept_commitStaging
    · exact Evq.Ok.close

/-- The queue is sound, and empty through a reset. -/
def State.QueueOk (s : State) : Prop := s.evq.Ok ∧ s.heldAtReset = true

theorem State.QueueOk.of_kept {s t : State} (hs : s.QueueOk) (h : s.QueueKept t) (hreset : t.heldAtReset = true) :
    t.QueueOk := ⟨h hs.1, hreset⟩

theorem stepKeeps_queueOk : StepKeeps State.QueueOk where
  supplyByte s hs hp := hs.of_kept (s.queueKept_readEffect _) (stepKeeps_heldAtReset.supplyByte s hs.2 hp)
  handOverRetry s hs := hs.of_kept s.queueKept_handOverRetry (stepKeeps_heldAtReset.handOverRetry s hs.2)
  takeAddress s b hs := by
    refine hs.of_kept ?_ (stepKeeps_heldAtReset.takeAddress s b hs.2)
    unfold State.takeAddress
    dsimp only
    split <;> exact s.queueKept_endTransfer
  receiveByte s b hs := by
    refine hs.of_kept ?_ (stepKeeps_heldAtReset.receiveByte s b hs.2)
    unfold State.receiveByte
    split <;> try exact id
    exact s.queueKept_writeReg _ b
  endTransfer s hs := hs.of_kept s.queueKept_endTransfer (stepKeeps_heldAtReset.endTransfer s hs.2)
  abortTransfer s hs := by
    refine hs.of_kept ?_ (stepKeeps_heldAtReset.abortTransfer s hs.2)
    unfold State.abortTransfer
    split
    · exact id
    · split
      · exact fun _ => Evq.ok_reset
      · exact Evq.Ok.close
  notAcknowledge s hs hd := by
    refine hs.of_kept ?_ (stepKeeps_heldAtReset.notAcknowledge s hs.2 hd)
    unfold State.notAcknowledge
    split <;> exact id
  deviceReset s c hs := ⟨Evq.ok_reset, stepKeeps_heldAtReset.deviceReset s c hs.2⟩
  endDeviceReset s straps hs := by
    refine hs.of_kept ?_ (stepKeeps_heldAtReset.endDeviceReset s straps hs.2)
    unfold State.endDeviceReset
    split <;> exact id
  endInit s hs := by
    refine ⟨?_, stepKeeps_heldAtReset.endInit s hs.2⟩
    unfold State.endInit
    split
    · next hp =>
      have heq := (s.heldAtReset_iff.1 hs.2).resolve_left (by simp [hp])
      have hempty : s.evq.records.length < 32 := by
        rw [heq]
        exact Nat.succ_pos 31
      exact hs.1.append hempty _
    · exact hs.1
  timerExpiry s hs := by
    refine hs.of_kept ?_ (stepKeeps_heldAtReset.timerExpiry s hs.2)
    unfold State.timerExpiry
    split
    · exact State.queueKept_cycleStart (s.modEngine _)
    · exact id
  syncEdge s e hs := by
    refine hs.of_kept ?_ (stepKeeps_heldAtReset.syncEdge s e hs.2)
    unfold State.syncEdge
    split
    · exact s.queueKept_cycleStart
    · exact id
  assertSelect s hs := hs.of_kept s.queueKept_assertSelect (stepKeeps_heldAtReset.assertSelect s hs.2)
  completion s d o hs := hs.of_kept (s.queueKept_completion d o) (stepKeeps_heldAtReset.completion s d o hs.2)
  reachDelay s hs := ⟨hs.1.reachDelay _, stepKeeps_heldAtReset.reachDelay s hs.2⟩
  tickEvq s hs := ⟨hs.1.tick, stepKeeps_heldAtReset.tickEvq s hs.2⟩
  rest s hs := ⟨hs.1, stepKeeps_heldAtReset.rest s hs.2⟩
  countDown s k hs hk h1 := ⟨hs.1, stepKeeps_heldAtReset.countDown s k hs.2 hk h1⟩
  countInit s why k hs hk h1 := ⟨hs.1, stepKeeps_heldAtReset.countInit s why k hs.2 hk h1⟩

/-- Settles O6: every event, read and clock keeps the queue's bounds, and the RESET record finds it empty. -/
theorem queueStaysSound : Obligations.QueueStaysSound := by
  intro s t hq hreset ht
  have hok : s.QueueOk := ⟨(Evq.sound_iff _).1 hq, hreset⟩
  have hnext : t.QueueOk := stepKeeps_queueOk.step (fun u l h => ⟨h.1, State.heldAtReset_pending l h.2⟩) hok ht
  exact (Evq.sound_iff _).2 hnext.1

end Sys2Proof.Machine
end

section
/-! SUPPORT. The invariants of the nodes, the engine, the work item and the Transaction Table as one predicate with named
parts, and what of the state each part concerns. -/

namespace Sys2Proof.Machine

/-! ## Nodes -/

/-- The supervision state of a node agrees with itself, part by part (R24, R29, R38, R44 to R51, R54, R125). -/
structure Node.Ok (x : Node) : Prop where
  count : x.failCount ≤ 15
  wait : x.reprobe ≤ 255
  age : x.inputAge ≤ 255
  online : x.state = .online → x.failCount = 0
  suspect : x.state = .suspect → 1 ≤ x.failCount
  served : x.state ≠ .offline → x.reprobe = 0
  matched : x.matchState = true → x.state.identified = true ∧ x.matchEnable = true
  lengths : x.state ≠ .disabled → x.outLen.toNat ≤ 8 ∧ x.inLen.toNat ≤ 8
  aged : x.state = .disabled ∨ x.state = .mismatch → x.inputAge = 255

theorem Node.sound_iff (x : Node) : x.sound = true ↔ x.Ok := by
  unfold Node.sound
  simp only [Bool.and_eq_true, decide_eq_true_eq, Bool.or_eq_true, Bool.not_eq_true', beq_iff_eq, bne_iff_ne,
    Bool.or_eq_false_iff, beq_eq_false_iff_ne]
  constructor
  · rintro ⟨⟨⟨⟨⟨⟨⟨⟨hcount, hwait⟩, hage⟩, honline⟩, hsuspect⟩, hserved⟩, hmatch⟩, hlen⟩, haged⟩
    exact ⟨hcount, hwait, hage, fun h => honline.resolve_left (· h), fun h => hsuspect.resolve_left (· h),
      hserved.resolve_left, fun h => hmatch.resolve_left (by simp [h]), hlen.resolve_left,
      fun h => haged.resolve_left fun hn => h.elim hn.1 hn.2⟩
  · rintro ⟨hcount, hwait, hage, honline, hsuspect, hserved, hmatch, hlen, haged⟩
    refine ⟨⟨⟨⟨⟨⟨⟨⟨hcount, hwait⟩, hage⟩, ?_⟩, ?_⟩, ?_⟩, ?_⟩, ?_⟩, ?_⟩
    · exact (em (x.state = .online)).symm.imp id honline
    · exact (em (x.state = .suspect)).symm.imp id hsuspect
    · exact (em (x.state = .offline)).imp id hserved
    · cases hm : x.matchState
      · exact .inl rfl
      · exact .inr (hmatch hm)
    · exact (em (x.state = .disabled)).imp id hlen
    · by_cases h : x.state = .disabled ∨ x.state = .mismatch
      · exact .inr (haged h)
      · exact .inl (not_or.1 h)

theorem State.nodesSound_iff (s : State) : s.nodesSound = true ↔ ∀ n, (s.node n).Ok := by
  simp only [State.nodesSound, List.all_eq_true, List.mem_finRange, true_implies, Node.sound_iff]

/-! ## Addresses -/

/-- Where a node stands on the link (R29). -/
def Node.place (x : Node) : Byte × Byte := (x.segment, x.address)

/-- No two nodes in service stand at the same place (R29). -/
def State.Apart (s : State) : Prop := ∀ n m, m ≠ n → (s.node n).state ≠ .disabled → (s.node m).state ≠ .disabled →
  (s.node m).place ≠ (s.node n).place

/-- Another entry in service stands where the node does (R29). -/
theorem State.duplicate_iff (s : State) (n : NodeIx) :
    s.duplicate n = true ↔ ∃ m, m ≠ n ∧ (s.node m).state ≠ .disabled ∧ (s.node m).place = (s.node n).place := by
  simp only [State.duplicate, List.any_eq_true, List.mem_finRange, true_and, Bool.and_eq_true, bne_iff_ne, beq_iff_eq,
    Node.place, Prod.mk.injEq, and_assoc]

theorem State.addressesDistinct_iff (s : State) : s.addressesDistinct = true ↔ s.Apart := by
  simp only [State.addressesDistinct, List.all_eq_true, List.mem_finRange, true_implies, Bool.or_eq_true, beq_iff_eq,
    Bool.not_eq_true', ← Bool.not_eq_true, State.duplicate_iff, State.Apart]
  constructor
  · intro h n m hm hn hs hp
    exact (h n).elim hn fun hd => hd ⟨m, hm, hs, hp⟩
  · intro h n
    by_cases hn : (s.node n).state = .disabled
    · exact .inl hn
    · exact .inr fun ⟨m, hm, hs, hp⟩ => h n m hm hn hs hp

/-! ## The scan engine -/

/-- A cycle is being worked: the per-cycle counts are kept (R73 to R80). -/
def EngineState.counting (x : EngineState) : Prop := x = .cycling ∨ x = .draining

/-- The engine's bounds, its timer and its counts, part by part, with `now` slot work items in progress (R63, R65, R69, R74,
R76, R77, R80). -/
structure Engine.Ok (g : Engine) (now : Nat) : Prop where
  latched : g.latchedLen ≤ 32
  cursor : g.cursor ≤ 32
  overruns : g.overruns ≤ 255
  dropped : g.dropped ≤ 255
  timer : ∀ k, g.timer = some k → 1 ≤ k ∧ g.source = .timer ∧ g.state ≠ .stopped
  noTimer : g.timer = none → g.state = .stopped ∨ g.source ≠ .timer
  still : ¬ g.state.counting → g.evaluated = 0 ∧ g.failed = 0 ∧ g.dropped = 0
  walked : g.state.counting → g.evaluated + now ≤ g.cursor ∧ g.failed ≤ g.evaluated

/-- How many slot work items are in progress. -/
def Link.slotCount (l : Link) : Nat := if l.slotWork then 1 else 0

theorem State.engineSound_iff (s : State) : s.engineSound = true ↔ s.engine.Ok s.link.slotCount := by
  unfold State.engineSound
  simp only [Bool.and_eq_true, decide_eq_true_eq]
  constructor
  · rintro ⟨⟨⟨⟨⟨hlatched, hcursor⟩, hover⟩, hdrop⟩, htimer⟩, hcount⟩
    refine ⟨hlatched, hcursor, hover, hdrop, fun k hk => ?_, fun hk => ?_, fun hc => ?_, fun hc => ?_⟩
    · simp only [hk] at htimer
      simpa [and_assoc] using htimer
    · simp only [hk] at htimer
      simpa using htimer
    · cases hs : s.engine.state <;> simp_all [EngineState.counting]
    · rcases hc with hc | hc <;> simp only [hc] at hcount <;> simpa [Link.slotCount] using hcount
  · rintro ⟨hlatched, hcursor, hover, hdrop, htimer, hnone, hstill, hwalked⟩
    refine ⟨⟨⟨⟨⟨hlatched, hcursor⟩, hover⟩, hdrop⟩, ?_⟩, ?_⟩
    · cases hk : s.engine.timer with
      | none => simpa using hnone hk
      | some k => simpa [and_assoc] using htimer k hk
    · unfold EngineState.counting at hstill hwalked
      unfold Link.slotCount at hwalked
      cases hs : s.engine.state <;> simp_all

/-! ## The work item -/

/-- What the work item of a node depends on of its entry (R2, R12, R38). -/
def Node.linkSide (x : Node) : NodeState × Byte × Byte × Byte × Byte × Bool :=
  (x.state, x.segment, x.address, x.profile, x.inLen, x.seq)

/-- What the work item of a transaction depends on of its entry (R6, R94, R136). -/
def Txn.linkSide (t : Txn) : TxnState × BitVec 4 × Byte × Byte × Byte × Nat :=
  (t.state, t.gen, t.op, t.node, t.count, t.attempts)

/-- A work item fits the rest of the part, its attempt aside (R12, R16, R19). -/
structure State.ItemOk (s : State) (w : WorkItem) : Prop where
  cls : s.classAgrees w = true
  toggle : w.toggle = (s.node w.node).newToggle w.op
  first : 1 ≤ w.attempt
  last : w.attempt ≤ 8
  command : w.nodeCmd ≠ none → w.suppressed = true
  drained : s.engine.state = .draining → w.suppressed = true

/-- The attempt of a work item agrees with the registers (R2, R17). -/
def State.AttemptOk (s : State) (w : WorkItem) : Prop :=
  match w.phase with
  | .inFlight x => s.exchangeAgrees w x = true
  | .retryPending r => s.retryAgrees w r = true

/-- The link's work item, if it holds one, agrees with the rest of the part; DRAINING lasts only while it holds one. -/
structure State.WorkOk (s : State) : Prop where
  idle : s.link.work = none → s.engine.state ≠ .draining
  item : ∀ w, s.link.work = some w → s.ItemOk w
  attempt : ∀ w, s.link.work = some w → s.AttemptOk w

theorem State.workSound_iff (s : State) : s.workSound = true ↔ s.WorkOk := by
  unfold State.workSound
  constructor
  · intro h
    refine ⟨fun hw => ?_, fun w hw => ?_, fun w hw => ?_⟩
    · rw [hw] at h
      simpa using h
    · rw [hw] at h
      simp only [Bool.and_eq_true, decide_eq_true_eq, beq_iff_eq, Bool.or_eq_true, bne_iff_ne] at h
      obtain ⟨⟨⟨⟨⟨⟨-, hcls⟩, htoggle⟩, hfirst⟩, hlast⟩, hcmd⟩, hdrain⟩ := h
      exact ⟨hcls, htoggle, hfirst, hlast, fun hn => hcmd.resolve_left (by simpa using hn),
        fun hd => hdrain.resolve_left (· hd)⟩
    · rw [hw] at h
      simp only [Bool.and_eq_true] at h
      obtain ⟨⟨⟨⟨⟨⟨hphase, -⟩, -⟩, -⟩, -⟩, -⟩, -⟩ := h
      unfold State.AttemptOk
      cases hp : w.phase <;> simpa [hp] using hphase
  · rintro ⟨hidle, hitem, hattempt⟩
    cases hw : s.link.work with
    | none => simpa using hidle hw
    | some w =>
      obtain ⟨hcls, htoggle, hfirst, hlast, hcmd, hdrain⟩ := hitem w hw
      have hphase := hattempt w hw
      simp only [Bool.and_eq_true, decide_eq_true_eq, beq_iff_eq, Bool.or_eq_true, bne_iff_ne]
      refine ⟨⟨⟨⟨⟨⟨?_, hcls⟩, htoggle⟩, hfirst⟩, hlast⟩, ?_⟩, ?_⟩
      · unfold State.AttemptOk at hphase
        cases hp : w.phase <;> simpa [hp] using hphase
      · cases hn : w.nodeCmd
        · exact .inl rfl
        · exact .inr (hcmd (by simp [hn]))
      · exact (em (s.engine.state = .draining)).symm.imp id hdrain

/-! ## The Transaction Table -/

/-- The entry whose work item is in progress. -/
def Link.carried (l : Link) : Option TxnIx :=
  match l.work with
  | some w => match w.cls with
    | .txn h => some (entryOf h)
    | _ => none
  | none => none

theorem Link.carries_iff (l : Link) (e : TxnIx) : l.carries e = true ↔ l.carried = some e := by
  unfold Link.carries Link.carried
  cases l.work with
  | none => simp
  | some w => cases hc : w.cls <;> simp [hc]

/-- The pending order holds exactly the QUEUED entries, each once, and `active` is the one that is ACTIVE (R94, R135). -/
structure State.TxnsOk (s : State) (active : Option TxnIx) : Prop where
  nodup : s.order.Nodup
  sound : ∀ e, (s.txn e).sound = true
  queued : ∀ e, e ∈ s.order ↔ (s.txn e).state = .queued
  active : ∀ e, active = some e ↔ (s.txn e).state = .active

theorem State.txnsSound_iff (s : State) : s.txnsSound = true ↔ s.TxnsOk s.link.carried := by
  have hqueue : ∀ e, s.order.contains e = ((s.txn e).state == .queued) ↔ (e ∈ s.order ↔ (s.txn e).state = .queued) := by
    intro e
    rw [Bool.eq_iff_iff, List.contains_iff_mem, beq_iff_eq]
  have hcarry : ∀ e, s.link.carries e = ((s.txn e).state == .active) ↔
      (s.link.carried = some e ↔ (s.txn e).state = .active) := by
    intro e
    rw [Bool.eq_iff_iff, Link.carries_iff, beq_iff_eq]
  unfold State.txnsSound
  rw [Bool.and_eq_true, decide_eq_true_eq, List.all_eq_true]
  simp only [List.mem_finRange, true_implies, Bool.and_eq_true, beq_iff_eq, hqueue, hcarry]
  constructor
  · rintro ⟨hnodup, hall⟩
    exact ⟨hnodup, fun e => (hall e).1.1, fun e => (hall e).1.2, fun e => (hall e).2⟩
  · rintro ⟨hnodup, hsound, hqueued, hactive⟩
    exact ⟨hnodup, fun e => ⟨⟨hsound e, hqueued e⟩, hactive e⟩⟩

/-! ## All of them -/

/-- The invariants of the blocks that the scan link ties together. -/
structure State.Inv (s : State) : Prop where
  nodes : ∀ n, (s.node n).Ok
  apart : s.Apart
  engine : s.engine.Ok s.link.slotCount
  work : s.WorkOk
  txns : s.TxnsOk s.link.carried

/-- In a sound state the registers are legal and the blocks agree. -/
theorem State.inv_of_sound {s : State} (h : s.sound = true) : s.registersLegal = true ∧ s.Inv := by
  unfold State.sound at h
  simp only [Bool.and_eq_true] at h
  obtain ⟨⟨⟨⟨⟨⟨⟨⟨⟨-, -⟩, -⟩, hlegal⟩, hnodes⟩, haddr⟩, hengine⟩, hwork⟩, htxns⟩, -⟩ := h
  exact ⟨hlegal, s.nodesSound_iff.1 hnodes, s.addressesDistinct_iff.1 haddr, s.engineSound_iff.1 hengine,
    s.workSound_iff.1 hwork, s.txnsSound_iff.1 htxns⟩

end Sys2Proof.Machine
end

section
/-! SUPPORT. The frame of the joint invariant: what an update may touch without concerning the work item in progress, and the
invariant across updates of one block. -/

namespace Sys2Proof.Machine

/-! ## What concerns the work item in progress -/

theorem Node.linkSide_eq_iff (x y : Node) : x.linkSide = y.linkSide ↔
    x.state = y.state ∧ x.segment = y.segment ∧ x.address = y.address ∧ x.profile = y.profile ∧ x.inLen = y.inLen ∧
    x.seq = y.seq := by
  simp only [Node.linkSide, Prod.mk.injEq]

theorem Txn.linkSide_eq_iff (t u : Txn) : t.linkSide = u.linkSide ↔
    t.state = u.state ∧ t.gen = u.gen ∧ t.op = u.op ∧ t.node = u.node ∧ t.count = u.count ∧ t.attempts = u.attempts := by
  simp only [Txn.linkSide, Prod.mk.injEq]

/-- From `s` to `t` nothing changes that work item `w` depends on. -/
structure State.ItemFrame (s t : State) (w : WorkItem) : Prop where
  node : (t.node w.node).linkSide = (s.node w.node).linkSide
  profiles : t.link.profiles = s.link.profiles
  txn : ∀ h, w.cls = .txn h → (t.txn (entryOf h)).linkSide = (s.txn (entryOf h)).linkSide
  counting : w.cls = .slot → s.engine.state.counting → t.engine.state.counting
  draining : t.engine.state = .draining → s.engine.state = .draining

variable {s t : State} {w : WorkItem}

theorem State.ItemFrame.classAgrees (hf : s.ItemFrame t w) (h : s.classAgrees w = true) : t.classAgrees w = true := by
  obtain ⟨hstate, -⟩ := (Node.linkSide_eq_iff _ _).1 hf.node
  have hcount := hf.counting
  unfold State.classAgrees at h ⊢
  rw [hstate]
  cases hc : w.cls with
  | slot =>
    simp only [hc, Bool.and_eq_true, Bool.or_eq_true, beq_iff_eq] at h ⊢
    exact ⟨hcount hc h.1, h.2⟩
  | urgent => rwa [hc] at h
  | gapProbe => rwa [hc] at h
  | txn k =>
    obtain ⟨htstate, hgen, hop, hnode, -, hattempts⟩ := (Txn.linkSide_eq_iff _ _).1 (hf.txn k hc)
    rw [hc] at h
    simp only [State.handle, Txn.nodeIx, htstate, hgen, hop, hnode, hattempts] at h ⊢
    exact h

theorem State.ItemFrame.replyLength (hf : s.ItemFrame t w) :
    t.replyLength w.cls w.op w.node = s.replyLength w.cls w.op w.node := by
  obtain ⟨-, -, -, -, hlen, -⟩ := (Node.linkSide_eq_iff _ _).1 hf.node
  cases hc : w.cls with
  | txn k =>
    obtain ⟨-, -, -, -, hcount, -⟩ := (Txn.linkSide_eq_iff _ _).1 (hf.txn k hc)
    cases w.op <;> simp only [State.replyLength, hlen, hcount]
  | _ => cases w.op <;> simp only [State.replyLength, hlen]

theorem State.ItemFrame.profileOf (hf : s.ItemFrame t w) :
    t.profileOf (t.node w.node) = s.profileOf (s.node w.node) := by
  obtain ⟨-, -, -, hprof, -, -⟩ := (Node.linkSide_eq_iff _ _).1 hf.node
  simp only [State.profileOf, hprof, hf.profiles]

theorem State.ItemFrame.attempt (hf : s.ItemFrame t w) (h : s.AttemptOk w) : t.AttemptOk w := by
  obtain ⟨-, hseg, haddr, -, -, -⟩ := (Node.linkSide_eq_iff _ _).1 hf.node
  have hdrain := hf.draining
  unfold State.AttemptOk at h ⊢
  split at h
  · simp only [State.exchangeAgrees, hseg, haddr, hf.profileOf, hf.replyLength] at h ⊢
    exact h
  · simp only [State.retryAgrees, Bool.and_eq_true, bne_iff_ne] at h ⊢
    obtain ⟨⟨hrest, hd⟩, hlast⟩ := h
    exact ⟨⟨hrest, fun hdt => hd (hdrain hdt)⟩, hlast⟩

theorem State.ItemFrame.item (hf : s.ItemFrame t w) (h : s.ItemOk w) : t.ItemOk w where
  cls := hf.classAgrees h.cls
  toggle := by
    obtain ⟨-, -, -, -, -, hseq⟩ := (Node.linkSide_eq_iff _ _).1 hf.node
    rw [h.toggle]
    unfold Node.newToggle
    rw [hseq]
  first := h.first
  last := h.last
  command := h.command
  drained hd := h.drained (hf.draining hd)

/-- The work item stays in agreement where nothing it depends on changes. -/
theorem State.WorkOk.frame (h : s.WorkOk) (hwork : t.link.work = s.link.work)
    (hdrain : t.engine.state = .draining → s.engine.state = .draining)
    (hf : ∀ w, s.link.work = some w → s.ItemFrame t w) : t.WorkOk where
  idle hw hd := h.idle (hwork ▸ hw) (hdrain hd)
  item w hw := (hf w (hwork ▸ hw)).item (h.item w (hwork ▸ hw))
  attempt w hw := (hf w (hwork ▸ hw)).attempt (h.attempt w (hwork ▸ hw))

/-! ## Updates of one block -/

theorem State.node_congr (h : t.nodes = s.nodes) (n : NodeIx) : t.node n = s.node n := by
  unfold State.node
  rw [h]

theorem State.txn_congr (h : t.txns = s.txns) (e : TxnIx) : t.txn e = s.txn e := by
  unfold State.txn
  rw [h]

theorem State.Apart.of_nodes (h : s.Apart) (hplace : ∀ n, (t.node n).place = (s.node n).place)
    (hserved : ∀ n, (t.node n).state ≠ .disabled → (s.node n).state ≠ .disabled) : t.Apart := by
  intro n m hm hn hms
  rw [hplace, hplace]
  exact h n m hm (hserved n hn) (hserved m hms)

theorem State.TxnsOk.congr {a : Option TxnIx} (h : s.TxnsOk a) (htxns : t.txns = s.txns) (horder : t.order = s.order) :
    t.TxnsOk a := by
  have htxn := State.txn_congr htxns
  exact ⟨horder ▸ h.nodup, fun e => by rw [htxn]; exact h.sound e, fun e => by rw [htxn, horder]; exact h.queued e,
    fun e => by rw [htxn]; exact h.active e⟩

/-! ## The invariant without the work item -/

/-- The invariants of the blocks, the work item aside, with `now` slot work items in progress and entry `active` ACTIVE. -/
structure State.Base (s : State) (now : Nat) (active : Option TxnIx) : Prop where
  nodes : ∀ n, (s.node n).Ok
  apart : s.Apart
  engine : s.engine.Ok now
  txns : s.TxnsOk active

theorem State.Inv.base (h : s.Inv) : s.Base s.link.slotCount s.link.carried :=
  ⟨h.nodes, h.apart, h.engine, h.txns⟩

theorem State.Base.inv (h : s.Base s.link.slotCount s.link.carried) (hw : s.WorkOk) : s.Inv :=
  ⟨h.nodes, h.apart, h.engine, hw, h.txns⟩

/-- The invariant across an update of nodes and engine that changes no place, takes no node into or out of service and leaves
what the work item depends on. -/
theorem State.Inv.tend (h : s.Inv) (hlink : t.link = s.link) (htxns : t.txns = s.txns)
    (horder : t.order = s.order) (hok : ∀ n, (t.node n).Ok) (hside : ∀ n, (t.node n).linkSide = (s.node n).linkSide)
    (hengine : t.engine.Ok s.link.slotCount) (hdrain : t.engine.state = .draining → s.engine.state = .draining)
    (hcount : s.link.slotWork = true → s.engine.state.counting → t.engine.state.counting) : t.Inv where
  nodes := hok
  apart := by
    refine h.apart.of_nodes (fun n => ?_) fun n => ?_
    · obtain ⟨-, hseg, haddr, -⟩ := (Node.linkSide_eq_iff _ _).1 (hside n)
      rw [Node.place, Node.place, hseg, haddr]
    · obtain ⟨hstate, -⟩ := (Node.linkSide_eq_iff _ _).1 (hside n)
      rw [hstate]
      exact id
  engine := by rw [hlink]; exact hengine
  work := h.work.frame (by rw [hlink]) hdrain fun w hw =>
    { node := hside _, profiles := by rw [hlink], txn := fun k _ => by rw [State.txn_congr htxns], draining := hdrain
      counting := fun hc => hcount (by simp [Link.slotWork, hw, hc]) }
  txns := by
    rw [hlink]
    exact h.txns.congr htxns horder

/-- The invariant concerns the nodes, the engine, the link and the Transaction Table alone. -/
theorem State.Inv.same (h : s.Inv) (hnodes : t.nodes = s.nodes)
    (hengine : t.engine = s.engine) (hlink : t.link = s.link) (htxns : t.txns = s.txns) (horder : t.order = s.order) :
    t.Inv := by
  have hnode := State.node_congr hnodes
  refine h.tend hlink htxns horder (fun n => ?_) (fun n => ?_) ?_ ?_ ?_
  · rw [hnode]; exact h.nodes n
  · rw [hnode]
  · rw [hengine]; exact h.engine
  · rw [hengine]; exact id
  · rw [hengine]; exact fun _ => id

/-- The invariant across an update of the nodes that leaves what the work item depends on. -/
theorem State.Inv.tendNodes (h : s.Inv) (hengine : t.engine = s.engine)
    (hlink : t.link = s.link) (htxns : t.txns = s.txns) (horder : t.order = s.order) (hok : ∀ n, (t.node n).Ok)
    (hside : ∀ n, (t.node n).linkSide = (s.node n).linkSide) : t.Inv :=
  h.tend hlink htxns horder hok hside (by rw [hengine]; exact h.engine) (by rw [hengine]; exact id)
    (by rw [hengine]; exact fun _ => id)

/-- The invariant across an update of the engine. -/
theorem State.Inv.modEngine (h : s.Inv) {f : Engine → Engine}
    (hok : (f s.engine).Ok s.link.slotCount) (hdrain : (f s.engine).state = .draining → s.engine.state = .draining)
    (hcount : s.link.slotWork = true → s.engine.state.counting → (f s.engine).state.counting) :
    (s.modEngine f).Inv :=
  h.tend rfl rfl rfl h.nodes (fun _ => rfl) hok hdrain hcount

/-- The invariant across an update of a node other than that of the work item in progress. -/
theorem State.Inv.setNodes (h : s.Inv) (hengine : t.engine = s.engine)
    (hlink : t.link = s.link) (htxns : t.txns = s.txns) (horder : t.order = s.order) (hok : ∀ n, (t.node n).Ok)
    (hapart : t.Apart) (hside : ∀ w, s.link.work = some w → (t.node w.node).linkSide = (s.node w.node).linkSide) :
    t.Inv where
  nodes := hok
  apart := hapart
  engine := by
    rw [hengine, hlink]
    exact h.engine
  work := h.work.frame (by rw [hlink]) (by rw [hengine]; exact id) fun w hw =>
    { node := hside w hw, profiles := by rw [hlink], txn := fun k _ => by rw [State.txn_congr htxns]
      counting := fun _ => by rw [hengine]; exact id, draining := by rw [hengine]; exact id }
  txns := by
    rw [hlink]
    exact h.txns.congr htxns horder

/-- The Transaction Table across an update of one entry and of the pending order. -/
theorem State.TxnsOk.modTxn {a b : Option TxnIx} {e : TxnIx} {f : Txn → Txn} {l : List TxnIx} (h : s.TxnsOk a)
    (hnodup : l.Nodup) (hsound : (f (s.txn e)).sound = true) (hmem : ∀ k, k ≠ e → (k ∈ l ↔ k ∈ s.order))
    (hqueued : e ∈ l ↔ (f (s.txn e)).state = .queued) (hother : ∀ k, k ≠ e → (b = some k ↔ a = some k))
    (hactive : b = some e ↔ (f (s.txn e)).state = .active) :
    (({ s with order := l } : State).modTxn e f).TxnsOk b := by
  have htxn := fun k => State.modTxn_txn { s with order := l } e k f
  refine ⟨hnodup, fun k => ?_, fun k => ?_, fun k => ?_⟩
  all_goals
    rw [htxn]
    split
  · exact hsound
  · exact h.sound k
  · next hk => rw [hk]; exact hqueued
  · next hk => exact (hmem k hk).trans (h.queued k)
  · next hk => rw [hk]; exact hactive
  · next hk => exact (hother k hk).trans (h.active k)

/-- The invariant across an update of one entry that is not the one in progress, or leaves what its work item depends on. -/
theorem State.Inv.modTxn (h : s.Inv) {e : TxnIx} {f : Txn → Txn} {l : List TxnIx}
    (hnodup : l.Nodup)
    (hsound : (f (s.txn e)).sound = true) (hmem : ∀ k, k ≠ e → (k ∈ l ↔ k ∈ s.order))
    (hqueued : e ∈ l ↔ (f (s.txn e)).state = .queued)
    (hactive : (s.txn e).state = .active ↔ (f (s.txn e)).state = .active)
    (hside : s.link.carried = some e → (f (s.txn e)).linkSide = (s.txn e).linkSide) :
    (({ s with order := l } : State).modTxn e f).Inv where
  nodes := h.nodes
  apart := h.apart
  engine := h.engine
  work := h.work.frame rfl id fun w hw =>
    { node := rfl, profiles := rfl, counting := fun _ => id, draining := id
      txn := fun k hk => by
        rw [State.modTxn_txn]
        split
        · next he =>
          rw [he]
          refine hside ?_
          simp [Link.carried, hw, hk, he]
        · rfl }
  txns := h.txns.modTxn hnodup hsound hmem hqueued (fun _ _ => Iff.rfl) ((h.txns.active e).trans hactive)

end Sys2Proof.Machine
end

section
/-! SUPPORT. The joint invariant across the hand-over of an attempt and the choice of the Link Arbiter. -/

namespace Sys2Proof.Machine

/-! ## A work item on the link -/

/-- How many slot work items a class of work in progress makes. -/
def WorkClass.slotCount (c : WorkClass) : Nat := if c = .slot then 1 else 0

/-- The entry a class of work carries. -/
def WorkClass.entry : WorkClass → Option TxnIx
  | .txn h => some (entryOf h)
  | _ => none

theorem Link.slotCount_of_work {l : Link} {w : WorkItem} (h : l.work = some w) : l.slotCount = w.cls.slotCount := by
  simp [Link.slotCount, Link.slotWork, WorkClass.slotCount, h]

theorem Link.carried_of_work {l : Link} {w : WorkItem} (h : l.work = some w) : l.carried = w.cls.entry := by
  cases hc : w.cls <;> simp [Link.carried, WorkClass.entry, h, hc]

theorem Link.slotCount_of_idle {l : Link} (h : l.work = none) : l.slotCount = 0 := by
  simp [Link.slotCount, Link.slotWork, h]

theorem Link.carried_of_idle {l : Link} (h : l.work = none) : l.carried = none := by
  simp [Link.carried, h]

variable {s t : State}

/-- The invariant with a work item on the link. -/
theorem State.Inv.base_of_work {w : WorkItem} (h : s.Inv) (hw : s.link.work = some w) :
    s.Base w.cls.slotCount w.cls.entry := by
  rw [← Link.slotCount_of_work hw, ← Link.carried_of_work hw]
  exact h.base

theorem State.Base.inv_of_work {w : WorkItem} (h : s.Base w.cls.slotCount w.cls.entry) (hw : s.link.work = some w)
    (hitem : s.ItemOk w) (hattempt : s.AttemptOk w) : s.Inv := by
  rw [← Link.slotCount_of_work hw, ← Link.carried_of_work hw] at h
  refine h.inv ⟨fun hn => ?_, fun v hv => ?_, fun v hv => ?_⟩
  · rw [hw] at hn
    cases hn
  · rw [hw, Option.some.injEq] at hv
    exact hv ▸ hitem
  · rw [hw, Option.some.injEq] at hv
    exact hv ▸ hattempt

/-- The invariant on an idle link. -/
theorem State.Inv.base_of_idle (h : s.Inv) (hw : s.link.work = none) : s.Base 0 none := by
  have hb := h.base
  rwa [Link.slotCount_of_idle hw, Link.carried_of_idle hw] at hb

theorem State.Base.inv_of_idle (h : s.Base 0 none) (hw : s.link.work = none) (hd : s.engine.state ≠ .draining) : s.Inv := by
  rw [← Link.slotCount_of_idle hw, ← Link.carried_of_idle hw] at h
  refine h.inv ⟨fun _ => hd, fun v hv => ?_, fun v hv => ?_⟩ <;> (rw [hw] at hv; cases hv)

/-! ## Updates that concern the work item or none -/

/-- The invariant without the work item concerns neither the link nor the registers. -/
theorem State.Base.same {now : Nat} {a : Option TxnIx} (h : s.Base now a) (hnodes : t.nodes = s.nodes)
    (hengine : t.engine = s.engine) (htxns : t.txns = s.txns) (horder : t.order = s.order) : t.Base now a where
  nodes n := by rw [State.node_congr hnodes]; exact h.nodes n
  apart := h.apart.of_nodes (fun n => by rw [State.node_congr hnodes]) fun n => by rw [State.node_congr hnodes]; exact id
  engine := by rw [hengine]; exact h.engine
  txns := h.txns.congr htxns horder

theorem State.Base.emit {now : Nat} {a : Option TxnIx} (h : s.Base now a) (k : EventKind) (n x y : Byte) :
    (s.emit k n x y).Base now a :=
  h.same (State.emit_nodes ..) (State.emit_engine ..) (State.emit_txns ..) (State.emit_order ..)

theorem State.Inv.emit (h : s.Inv) (k : EventKind) (n x y : Byte) : (s.emit k n x y).Inv :=
  h.same (State.emit_nodes ..) (State.emit_engine ..) (State.emit_link ..) (State.emit_txns ..) (State.emit_order ..)

/-- A node of which only the arbiter's marks differ agrees with itself as before. -/
theorem Node.Ok.congr {x y : Node} (h : x.Ok) (hcount : y.failCount = x.failCount) (hwait : y.reprobe = x.reprobe)
    (hage : y.inputAge = x.inputAge) (hstate : y.state = x.state) (hmatch : y.matchState = x.matchState)
    (hoptions : y.options = x.options) (hout : y.outLen = x.outLen) (hin : y.inLen = x.inLen) : y.Ok where
  count := hcount ▸ h.count
  wait := hwait ▸ h.wait
  age := hage ▸ h.age
  online hs := by rw [hcount]; exact h.online (hstate ▸ hs)
  suspect hs := by rw [hcount]; exact h.suspect (hstate ▸ hs)
  served hs := by rw [hwait]; exact h.served (hstate ▸ hs)
  matched hm := by
    unfold Node.matchEnable
    rw [hstate, hoptions]
    exact h.matched (hmatch ▸ hm)
  lengths hs := by rw [hout, hin]; exact h.lengths (hstate ▸ hs)
  aged hs := by rw [hage]; exact h.aged (hstate ▸ hs)

/-! ## The hand-over of an attempt -/

theorem State.withExchange_node (s : State) (w : WorkItem) (x : Exchange) (n : NodeIx) :
    (s.withExchange w x).node n =
      if n = w.node then { s.node w.node with due := (s.node w.node).due && x.op != .cyclic } else s.node n :=
  s.setNode_node w.node n { s.node w.node with due := (s.node w.node).due && x.op != .cyclic }

/-- A hand-over leaves of a node all but its due flag. -/
theorem State.withExchange_node_eq (s : State) (w : WorkItem) (x : Exchange) (n : NodeIx) :
    ∃ d, (s.withExchange w x).node n = { s.node n with due := d } := by
  rw [State.withExchange_node]
  split
  · next h => exact ⟨_, by rw [h]⟩
  · exact ⟨_, rfl⟩

theorem State.Base.withExchange {now : Nat} {a : Option TxnIx} (h : s.Base now a) (w : WorkItem) (x : Exchange) :
    (s.withExchange w x).Base now a where
  nodes n := by
    obtain ⟨d, hd⟩ := s.withExchange_node_eq w x n
    rw [hd]
    exact (h.nodes n).congr rfl rfl rfl rfl rfl rfl rfl rfl
  apart := by
    refine h.apart.of_nodes (fun n => ?_) fun n => ?_
    · obtain ⟨d, hd⟩ := s.withExchange_node_eq w x n
      rw [hd]
      rfl
    · obtain ⟨d, hd⟩ := s.withExchange_node_eq w x n
      rw [hd]
      exact id
  engine := h.engine
  txns := h.txns.congr rfl rfl

theorem State.itemFrame_withExchange (s : State) (v : WorkItem) (x : Exchange) (w : WorkItem) :
    s.ItemFrame (s.withExchange v x) w where
  node := by
    obtain ⟨d, hd⟩ := s.withExchange_node_eq v x w.node
    rw [hd]
    rfl
  profiles := rfl
  txn _ _ := rfl
  counting _ := id
  draining := id

/-- The exchange latched at a hand-over agrees with the registers it is latched from (R2). -/
theorem State.latch_agrees (s : State) (w : WorkItem) :
    s.exchangeAgrees w (s.latch w.cls w.op w.node w.toggle) = true := by
  simp [State.exchangeAgrees, State.latch]

/-- The hand-over of a work item that fits the part leaves the invariant. -/
theorem State.Base.handOver {w : WorkItem} (h : s.Base w.cls.slotCount w.cls.entry)
    (hitem : s.ItemOk { w with phase := .inFlight (s.latch w.cls w.op w.node w.toggle) }) : (s.handOver w).Inv := by
  rw [State.handOver_eq]
  have hframe := s.itemFrame_withExchange w (s.latch w.cls w.op w.node w.toggle)
    { w with phase := .inFlight (s.latch w.cls w.op w.node w.toggle) }
  exact (h.withExchange w _).inv_of_work (w := { w with phase := .inFlight _ }) rfl (hframe.item hitem) (hframe.attempt (s.latch_agrees w))

/-- The first attempt of new work that fits the part leaves the invariant. -/
theorem State.Base.startWork {c : WorkClass} {op : LinkOp} {n : NodeIx} (h : s.Base c.slotCount c.entry)
    (hd : s.engine.state ≠ .draining) (hcls : s.classAgrees (s.newWork c op n) = true) : (s.startWork c op n).Inv := by
  have hover : (s.handOver (s.newWork c op n)).Inv := by
    refine State.Base.handOver h ⟨hcls, rfl, ?_, ?_, ?_, fun hdr => absurd hdr hd⟩
    · exact Nat.le_refl 1
    · exact Nat.le_add_left 1 7
    · exact fun hn => absurd rfl hn
  refine State.Base.inv ?_ ?_
  · exact hover.base.same rfl rfl rfl rfl
  · exact hover.work.frame rfl id fun w _ =>
      { node := rfl, profiles := rfl, txn := fun _ _ => rfl, counting := fun _ => id, draining := id }

/-! ## Classes of service -/

theorem Node.identified_of_cyclic {x : Node} (h : x.serviceClass = .cyclic) : x.state.identified = true := by
  unfold Node.serviceClass at h
  cases hs : x.state with
  | online => rfl
  | suspect => rfl
  | offline => rw [hs] at h; dsimp only at h; split at h <;> cases h
  | _ => rw [hs] at h; cases h

theorem Node.probed_of_probe {x : Node} (h : x.serviceClass = .probe) : x.state.probed = true := by
  unfold Node.serviceClass at h
  cases hs : x.state <;> simp_all [NodeState.probed]

theorem Node.probe_of_served {x : Node} (h : x.serviceClass ≠ .none) (hc : x.serviceClass ≠ .cyclic) :
    x.serviceClass = .probe := by
  cases hs : x.serviceClass <;> simp_all

/-- A handle names its entry (R130). -/
@[simp] theorem entryOf_handleOf (gen : BitVec 4) (e : TxnIx) : entryOf (handleOf gen e) = e := by
  revert gen e
  decide

/-! ## The tries -/

variable (h : s.Base 0 none) (hw : s.link.work = none) (hd : s.engine.state ≠ .draining)
include h hd

theorem State.inv_tryUrgent (ht : s.tryUrgent = some t) : t.Inv := by
  unfold State.tryUrgent at ht
  obtain ⟨n, hn, rfl⟩ := Option.map_eq_some_iff.1 ht
  have hclass := List.find?_some hn
  simp only [Bool.and_eq_true, beq_iff_eq] at hclass
  refine State.Base.startWork h hd ?_
  simpa [State.classAgrees, State.newWork] using Node.identified_of_cyclic hclass.2

theorem State.inv_tryUrgentFirst (ht : s.tryUrgentFirst = some t) : t.Inv := by
  unfold State.tryUrgentFirst at ht
  split at ht
  · cases ht
  · exact State.inv_tryUrgent h hd ht

theorem State.inv_tryGapProbe (ht : s.tryGapProbe = some t) : t.Inv := by
  unfold State.tryGapProbe at ht
  obtain ⟨n, hn, rfl⟩ := Option.map_eq_some_iff.1 ht
  have hneed := List.find?_some hn
  simp only [State.needsGapProbe, Bool.and_eq_true, beq_iff_eq] at hneed
  obtain ⟨⟨hclass, -⟩, -⟩ := hneed
  have hstart : (s.startWork .gapProbe .ident n).Inv := by
    refine State.Base.startWork h hd ?_
    simpa [State.classAgrees, State.newWork] using Node.probed_of_probe hclass
  refine hstart.tendNodes rfl rfl rfl rfl (fun m => ?_) fun m => ?_
  · rw [State.modNode_node]
    split
    · exact (hstart.nodes n).congr rfl rfl rfl rfl rfl rfl rfl rfl
    · exact hstart.nodes m
  · rw [State.modNode_node]
    split
    · next hm => rw [hm]; rfl
    · rfl

theorem State.inv_trySlot (hc : s.engine.state = .cycling) (ht : s.trySlot = some t) : t.Inv := by
  unfold State.trySlot at ht
  obtain ⟨k, hk, rfl⟩ := Option.map_eq_some_iff.1 ht
  have hyield := List.find?_some hk
  simp only [State.slotYields, Bool.and_eq_true, decide_eq_true_eq, bne_iff_ne] at hyield
  obtain ⟨hcursor, -, hserved⟩ := hyield
  have hwalk := h.engine.walked (.inl hc)
  have hbase : (s.modEngine fun g => { g with cursor := k.val + 1 }).Base WorkClass.slot.slotCount WorkClass.slot.entry :=
    { nodes := h.nodes
      apart := h.apart
      engine :=
        { h.engine with
          cursor := k.isLt
          walked := fun _ => ⟨Nat.succ_le_succ (Nat.le_trans hwalk.1 hcursor), hwalk.2⟩ }
      txns := h.txns.congr rfl rfl }
  refine State.Base.startWork hbase hd ?_
  by_cases hcyclic : (s.node s.slots[k].node).serviceClass = .cyclic
  · have hstate := Node.identified_of_cyclic hcyclic
    simp only [State.classAgrees, State.newWork, State.modEngine_engine, hc, if_pos hcyclic]
    simpa using hstate
  · have hstate := Node.probed_of_probe (Node.probe_of_served hserved hcyclic)
    simp only [State.classAgrees, State.newWork, State.modEngine_engine, hc, if_neg hcyclic]
    simpa using hstate

omit hd in
/-- The entry at the front of the pending order is QUEUED, and no other of the order is the same. -/
theorem State.front_queued {e : TxnIx} {rest : List TxnIx} (ho : s.order = e :: rest) :
    (s.txn e).state = .queued ∧ rest.Nodup ∧ e ∉ rest ∧ ∀ k, k ≠ e → (k ∈ rest ↔ k ∈ s.order) := by
  have hnodup := h.txns.nodup
  rw [ho, List.nodup_cons] at hnodup
  refine ⟨(h.txns.queued e).1 (by simp [ho]), hnodup.2, hnodup.1, fun k hk => ?_⟩
  simp [ho, hk]

theorem State.inv_tryTxn_handed (ht : s.tryTxn = .handed t) : t.Inv := by
  unfold State.tryTxn at ht
  split at ht
  · cases ht
  next e rest ho =>
  dsimp only at ht
  split at ht
  swap
  · cases ht
  next hclass =>
  cases ht
  obtain ⟨hqueued, hnodup, hout, hmem⟩ := State.front_queued h ho
  have hsound := h.txns.sound e
  simp only [Txn.sound, hqueued, Bool.and_eq_true] at hsound
  obtain ⟨⟨hattempts, hmark⟩, ⟨hresult, hzero⟩, hranges⟩ := hsound
  have hbase : ((({ s with order := rest } : State).modTxn e fun u => { u with state := .active }).Base
      (WorkClass.txn (s.handle e)).slotCount (WorkClass.txn (s.handle e)).entry) :=
    { nodes := h.nodes
      apart := h.apart
      engine := h.engine
      txns := by
        refine h.txns.modTxn hnodup ?_ hmem ?_ (fun k hk => ?_) ?_
        · have hlegal : ({ s.txn e with state := .active } : Txn).rangesLegal = true := hranges
          simp only [Txn.sound, hattempts, hresult, hlegal]
          simp
        · simp [hout]
        · simp [WorkClass.entry, State.handle, Ne.symm hk]
        · simp [WorkClass.entry, State.handle] }
  refine State.Base.startWork hbase hd ?_
  have hstate := Node.identified_of_cyclic hclass
  have hzero' : (s.txn e).attempts = 0 := beq_iff_eq.1 hzero
  have htxn : (({ s with order := rest } : State).modTxn e fun u => { u with state := .active }).txn e =
      { s.txn e with state := .active } := State.modTxn_txn_same _ e _
  have hgen : (({ s with order := rest } : State).txn e).gen = (s.txn e).gen := rfl
  simp only [State.classAgrees, State.newWork, State.handle, entryOf_handleOf, htxn, hzero', hgen]
  simpa [Txn.nodeIx] using hstate

end Sys2Proof.Machine
end

section
/-! SUPPORT. The joint invariant across the choice of the Link Arbiter and the boundaries that call for one. -/

namespace Sys2Proof.Machine

variable {s t : State}

/-! ## The steps that hand nothing over -/

/-- A pick that ends NODE_UNAVAILABLE leaves an idle link's invariant (R94, R137). -/
theorem State.base_tryTxn_unavailable (h : s.Base 0 none) (ht : s.tryTxn = .unavailable t) : t.Base 0 none := by
  unfold State.tryTxn at ht
  split at ht
  · cases ht
  next e rest ho =>
  dsimp only at ht
  split at ht
  · cases ht
  cases ht
  obtain ⟨-, hnodup, hout, hmem⟩ := State.front_queued h ho
  unfold State.failUnavailable State.emitTxnEnd
  refine State.Base.emit ?_ _ _ _ _
  exact
    { nodes := h.nodes
      apart := h.apart
      engine := h.engine
      txns := h.txns.modTxn hnodup rfl hmem (by simp [hout]) (fun _ _ => Iff.rfl) (by simp) }

theorem State.reportDropped_same (s : State) : s.reportDropped.nodes = s.nodes ∧ s.reportDropped.engine = s.engine ∧
    s.reportDropped.txns = s.txns ∧ s.reportDropped.order = s.order := by
  unfold State.reportDropped
  split
  · exact ⟨State.emit_nodes .., State.emit_engine .., State.emit_txns .., State.emit_order ..⟩
  · exact ⟨rfl, rfl, rfl, rfl⟩

theorem State.Base.reportDropped {now : Nat} {a : Option TxnIx} (h : s.Base now a) : s.reportDropped.Base now a := by
  obtain ⟨hnodes, hengine, htxns, horder⟩ := s.reportDropped_same
  exact h.same hnodes hengine htxns horder

/-- An engine that stands in WAITING, whatever its cursor, keeps no count (R77). -/
theorem Engine.Ok.waiting {g : Engine} (h : g.Ok 0) (hc : g.state.counting) (c : Nat) (hcur : c ≤ 32) :
    ({ g with evaluated := 0, failed := 0, dropped := 0, state := .waiting, cursor := c } : Engine).Ok 0 where
  latched := h.latched
  cursor := hcur
  overruns := h.overruns
  dropped := Nat.zero_le _
  timer k hk := by
    obtain ⟨hpos, hsource, -⟩ := h.timer k hk
    exact ⟨hpos, hsource, by simp⟩
  noTimer hk := .inr ((h.noTimer hk).resolve_left (by rcases hc with hc | hc <;> simp [hc]))
  still _ := ⟨rfl, rfl, rfl⟩
  walked hw := by rcases hw with hw | hw <;> cases hw

theorem State.endCycle_engine (s : State) : s.endCycle.engine =
    { s.engine with evaluated := 0, failed := 0, dropped := 0, state := .waiting, cursor := s.engine.latchedLen } := by
  unfold State.endCycle State.enterWaiting
  dsimp only
  rw [State.mapNodes_engine, State.modEngine_engine, State.modEngine_engine, (State.reportDropped_same _).2.1,
    State.emit_engine]
  rfl

theorem State.endCycle_node (s : State) (n : NodeIx) : s.endCycle.node n = { s.node n with gapMark := false } := by
  unfold State.endCycle State.enterWaiting
  dsimp only
  rw [State.mapNodes_node, State.node_congr (s := s)]
  exact (State.reportDropped_same _).1.trans (State.emit_nodes ..)

theorem State.endCycle_txns (s : State) : s.endCycle.txns = s.txns ∧ s.endCycle.order = s.order :=
  ⟨(State.reportDropped_same _).2.2.1.trans (State.emit_txns ..), (State.reportDropped_same _).2.2.2.trans (State.emit_order ..)⟩

/-- The end of a cycle leaves an idle link's invariant (R77). -/
theorem State.base_endCycle (h : s.Base 0 none) (hc : s.engine.state = .cycling) : s.endCycle.Base 0 none where
  nodes n := by
    rw [State.endCycle_node]
    exact (h.nodes n).congr rfl rfl rfl rfl rfl rfl rfl rfl
  apart := h.apart.of_nodes (fun n => by rw [State.endCycle_node]; rfl) fun n => by rw [State.endCycle_node]; exact id
  engine := by
    rw [State.endCycle_engine]
    exact h.engine.waiting (.inl hc) _ h.engine.latched
  txns := h.txns.congr s.endCycle_txns.1 s.endCycle_txns.2

/-! ## The choice -/

theorem State.inv_chooseGap (fuel : Nat) : ∀ s : State, s.Base 0 none → s.link.work = none → s.engine.state ≠ .draining →
    (State.chooseGap fuel s).Inv := by
  induction fuel with
  | zero => exact fun s h hw hd => h.inv_of_idle hw hd
  | succ k ih =>
    intro s h hw hd
    unfold State.chooseGap
    split
    · next t ht => exact State.inv_tryUrgentFirst h hd ht
    split
    · next t ht =>
      split at ht
      · exact State.inv_tryGapProbe h hd ht
      · cases ht
    split
    · next t ht => exact State.inv_tryTxn_handed h hd ht
    · next t ht =>
      exact ih t (State.base_tryTxn_unavailable h ht) ((State.tryTxn_unavailable_link ht).symm ▸ hw)
        ((State.tryTxn_unavailable_engine ht).symm ▸ hd)
    · cases ht : s.tryUrgent with
      | none => exact h.inv_of_idle hw hd
      | some t => exact State.inv_tryUrgent h hd ht

theorem State.inv_chooseCycling (fuel : Nat) : ∀ s : State, s.Base 0 none → s.link.work = none →
    s.engine.state = .cycling → (State.chooseCycling fuel s).Inv := by
  induction fuel with
  | zero => exact fun s h hw hc => h.inv_of_idle hw (by simp [hc])
  | succ k ih =>
    intro s h hw hc
    have hd : s.engine.state ≠ .draining := by simp [hc]
    unfold State.chooseCycling
    split
    · next t ht => exact State.inv_tryUrgentFirst h hd ht
    split
    · next t ht =>
      split at ht
      · exact State.inv_tryTxn_handed h hd ht
      · cases ht
    · next t ht =>
      split at ht
      · exact ih t (State.base_tryTxn_unavailable h ht) ((State.tryTxn_unavailable_link ht).symm ▸ hw)
          ((State.tryTxn_unavailable_engine ht).symm ▸ hc)
      · cases ht
    · cases ht : s.trySlot with
      | none =>
        refine State.inv_chooseGap _ _ (State.base_endCycle h hc) (by rw [State.endCycle_link]; exact hw) ?_
        rw [State.endCycle_engine]
        simp
      | some t => exact State.inv_trySlot h hd hc ht

/-- The choice on an idle link leaves the invariant. -/
theorem State.Base.choose (h : s.Base 0 none) (hw : s.link.work = none) (hd : s.engine.state ≠ .draining) :
    s.choose.Inv := by
  unfold State.choose
  split
  · next hc => exact State.inv_chooseCycling _ s h hw hc
  · exact State.inv_chooseGap _ s h hw hd
  · exact State.inv_chooseGap _ s h hw hd
  · exact h.inv_of_idle hw hd

/-- A boundary formed on an idle link leaves the invariant (R86). -/
theorem State.Inv.idleBoundary (h : s.Inv) : s.idleBoundary.Inv := by
  unfold State.idleBoundary
  split
  · next hi =>
    have hw : s.link.work = none := by simpa [Link.idle] using hi
    exact (h.base_of_idle hw).choose hw (h.work.idle hw)
  · exact h

/-! ## The hand-over of a retry -/

/-- A retry that waits goes out as the next attempt of its work item (R18). -/
theorem State.Inv.handOverRetry (h : s.Inv) : s.handOverRetry.Inv := by
  unfold State.handOverRetry
  split
  swap
  · exact h
  next w hw =>
  split
  swap
  · exact h
  next r hr =>
  split
  · exact h
  next hd =>
  have hitem := h.work.item w hw
  have hattempt := h.work.attempt w hw
  rw [State.AttemptOk, hr] at hattempt
  simp only [State.retryAgrees, Bool.and_eq_true, decide_eq_true_eq] at hattempt
  obtain ⟨-, hlast⟩ := hattempt
  have hbase : s.Base w.cls.slotCount w.cls.entry := h.base_of_work hw
  refine State.Base.handOver (w := { w with attempt := w.attempt + 1 }) hbase ⟨?_, hitem.toggle, Nat.le_add_left 1 _, Nat.succ_le_succ hlast,
    hitem.command, hitem.drained⟩
  have hcls := hitem.cls
  unfold State.classAgrees at hcls ⊢
  cases hc : w.cls with
  | txn k => simpa [hc, hr] using hcls
  | _ => simpa [hc] using hcls

end Sys2Proof.Machine
end

section
/-! SUPPORT. The joint invariant across the end of a work item: the evaluation of its outcome, the node command that waited
for it and the end of DRAINING. -/

namespace Sys2Proof.Machine

variable {s t : State} {x : Node} {n : NodeIx}

/-! ## A node in service through its evaluation -/

/-- A node in service, in agreement with itself. -/
def Node.InService (x : Node) : Prop := x.Ok ∧ x.state ≠ .disabled

theorem NodeState.identified_iff (x : NodeState) : x.identified = true ↔ x = .online ∨ x = .suspect := by
  simp [NodeState.identified]

theorem NodeState.probed_iff (x : NodeState) : x.probed = true ↔ x = .probing ∨ x = .offline := by
  simp [NodeState.probed]

/-- An entry to OFFLINE (R47). -/
theorem Node.InService.offline (h : x.InService) {c : Nat} (hc : c ≤ 15) (b : Byte) :
    ({ x with failCount := c, reprobe := b.toNat, matchState := false, state := .offline } : Node).InService :=
  ⟨{ h.1 with
      count := hc
      wait := Nat.le_of_lt_succ b.isLt
      online := nofun
      suspect := nofun
      served := fun hs => absurd rfl hs
      matched := nofun
      lengths := fun _ => h.1.lengths h.2
      aged := fun hs => hs.elim nofun nofun }, nofun⟩

/-- The fail count of a SUSPECT node (R45). -/
theorem Node.InService.suspect (h : x.InService) (hi : x.state.identified = true) {c : Nat} (hc : c ≤ 15) (hpos : 1 ≤ c) :
    ({ x with failCount := c, state := .suspect } : Node).InService :=
  ⟨{ h.1 with
      count := hc
      online := nofun
      suspect := fun _ => hpos
      served := fun _ => h.1.served fun ho => by rw [ho] at hi; cases hi
      matched := fun hm => ⟨rfl, (h.1.matched hm).2⟩
      lengths := fun _ => h.1.lengths h.2
      aged := fun hs => hs.elim nofun nofun }, nofun⟩

/-- An agreeing node is not in a match while it is being identified (R50). -/
theorem Node.Ok.unmatched (h : x.Ok) (hp : x.state.identified = false) : x.matchState = false := by
  by_contra hm
  have hid := (h.matched (by simpa using hm)).1
  rw [hp] at hid
  cases hid

/-- An entry to ONLINE (R44, R49). -/
theorem Node.InService.online (h : x.InService) :
    ({ x with failCount := 0, reprobe := 0, state := .online } : Node).InService :=
  ⟨{ h.1 with
      count := Nat.zero_le _
      wait := Nat.zero_le _
      online := fun _ => rfl
      suspect := nofun
      served := fun _ => rfl
      matched := fun hm => ⟨rfl, (h.1.matched hm).2⟩
      lengths := fun _ => h.1.lengths h.2
      aged := fun hs => hs.elim nofun nofun }, nofun⟩

/-- An entry to MISMATCH (R50). -/
theorem Node.InService.mismatch (h : x.InService) {c p : Nat} (hc : c ≤ 15) (hp : p = 0) :
    ({ x with failCount := c, reprobe := p, matchState := false, inputAge := 255, state := .mismatch } : Node).InService :=
  ⟨{ h.1 with
      count := hc
      wait := by rw [hp]; exact Nat.zero_le _
      age := Nat.le_refl _
      online := nofun
      suspect := nofun
      served := fun _ => hp
      matched := nofun
      lengths := fun _ => h.1.lengths h.2
      aged := fun _ => rfl }, nofun⟩

theorem Node.InService.congr {y : Node} (h : x.InService) (hcount : y.failCount = x.failCount)
    (hwait : y.reprobe = x.reprobe) (hage : y.inputAge = x.inputAge) (hstate : y.state = x.state)
    (hmatch : y.matchState = x.matchState) (hoptions : y.options = x.options) (hout : y.outLen = x.outLen)
    (hin : y.inLen = x.inLen) : y.InService :=
  ⟨h.1.congr hcount hwait hage hstate hmatch hoptions hout hin, by rw [hstate]; exact h.2⟩

theorem State.inService_recorded (h : (s.node n).InService) (r : Completion) :
    (((s.recordOutcome n r).compareAlert n r).node n).InService := by
  rw [State.recorded_node]
  exact h.congr rfl rfl rfl rfl rfl rfl rfl rfl

theorem State.inService_storeInput (h : (s.node n).InService) (hi : (s.node n).state.identified = true) (p : List Byte) :
    ((s.storeInput n p).node n).InService := by
  rw [State.storeInput_node]
  exact ⟨{ h.1 with
    matched := fun hm => ⟨hi, (Bool.and_eq_true_iff.1 hm).1⟩ }, h.2⟩

theorem State.inService_cyclicOk (h : (s.node n).InService) (hi : (s.node n).state.identified = true) :
    ((s.cyclicOk n).node n).InService := by
  have hon : (if (s.node n).state = .suspect then NodeState.online else (s.node n).state) = .online := by
    obtain hs | hs := (NodeState.identified_iff _).1 hi <;> simp [hs]
  have hoff : (s.node n).reprobe = 0 := h.1.served fun ho => by rw [ho] at hi; cases hi
  rw [State.cyclicOk_node]
  dsimp only
  rw [hon]
  exact ⟨{ h.online.1 with
    wait := h.1.wait
    age := Nat.zero_le _
    served := fun _ => hoff
    aged := fun hs => hs.elim nofun nofun }, nofun⟩

theorem State.inService_cyclicFailed (h : (s.node n).InService) (hi : (s.node n).state.identified = true) :
    ((s.cyclicFailed n).node n).InService := by
  have hle : succUpTo 15 (s.node n).failCount ≤ 15 := succUpTo_le h.1.count
  have hpos : 1 ≤ succUpTo 15 (s.node n).failCount := succUpTo_pos (Nat.succ_pos 14)
  have hsuspect := h.suspect hi hle hpos
  rw [State.cyclicFailed_node]
  dsimp only
  split
  · exact h.offline hle _
  split
  · exact hsuspect
  · next hon =>
    have hs : (s.node n).state = .suspect := ((NodeState.identified_iff _).1 hi).resolve_left hon
    exact hsuspect.congr rfl rfl rfl hs rfl rfl rfl rfl

theorem State.inService_probeFailed (h : (s.node n).InService) (hp : (s.node n).state.probed = true) :
    ((s.probeFailed n).node n).InService := by
  have hle : succUpTo 15 (s.node n).failCount ≤ 15 := succUpTo_le h.1.count
  have hmatch : (s.node n).matchState = false := by
    refine h.1.unmatched ?_
    obtain hs | hs := (NodeState.probed_iff _).1 hp <;> rw [hs] <;> rfl
  rw [State.probeFailed_node]
  dsimp only
  split
  · next hoff => exact (h.offline hle s.engine.reprobeInterval).congr rfl rfl rfl hoff hmatch rfl rfl rfl
  split
  · exact h.offline hle _
  · refine ⟨{ h.1 with count := hle, online := fun hs => ?_, suspect := fun hs => ?_ }, h.2⟩ <;>
      (rw [show (s.node n).state = _ from hs] at hp; cases hp)

theorem State.inService_probeOk (h : (s.node n).InService) (p : List Byte) : ((s.probeOk n p).node n).InService := by
  rw [State.probeOk_node]
  dsimp only
  split
  · exact h.online.congr rfl rfl rfl rfl rfl rfl rfl rfl
  · exact (h.mismatch (Nat.zero_le 15) rfl).congr rfl rfl rfl rfl rfl rfl rfl rfl

theorem State.inService_evaluateCyclic (h : (s.node n).InService) (hi : (s.node n).state.identified = true)
    (r : Completion) : ((s.evaluateCyclic n r).node n).InService := by
  unfold State.evaluateCyclic
  split
  · refine State.inService_cyclicOk (State.inService_storeInput h hi _) ?_
    rw [State.storeInput_node]
    exact hi
  split
  · exact State.inService_cyclicFailed h hi
  · exact h

theorem State.inService_evaluateProbe (h : (s.node n).InService) (hp : (s.node n).state.probed = true) (r : Completion) :
    ((s.evaluateProbe n r).node n).InService := by
  unfold State.evaluateProbe
  split
  · exact State.inService_probeOk h _
  split
  · exact State.inService_probeFailed h hp
  · exact h

/-- What the op of a work item asks of its node: a CYCLIC one an identified node, a probe one that is being identified (R16,
R40). -/
def LinkOp.suits (op : LinkOp) (x : NodeState) : Prop :=
  (op = .cyclic ∧ x.identified = true) ∨ (op = .ident ∧ x.probed = true)

theorem State.inService_supervise {r : Completion} (h : (s.node r.node).InService)
    (hsuits : r.op.suits (s.node r.node).state) : ((s.supervise r).node r.node).InService := by
  have hrecorded := State.inService_recorded h r
  have hstate : (((s.recordOutcome r.node r).compareAlert r.node r).node r.node).state = (s.node r.node).state := by
    rw [State.recorded_node]
  unfold State.supervise
  dsimp only
  obtain ⟨hop, hi⟩ | ⟨hop, hp⟩ := hsuits
  · rw [hop]
    exact State.inService_evaluateCyclic hrecorded (by rw [hstate]; exact hi) r
  · rw [hop]
    exact State.inService_evaluateProbe hrecorded (by rw [hstate]; exact hp) r

theorem State.superviseIdentTxn_node (s : State) (r : Completion) : (s.superviseIdentTxn r).node r.node =
    if (s.node r.node).agrees r.payload then (s.report r.node r.payload).node r.node
    else { (s.report r.node r.payload).node r.node with matchState := false, inputAge := 255, state := .mismatch } := by
  unfold State.superviseIdentTxn
  dsimp only
  split
  · rfl
  · rw [State.enterState_node, State.modNode_node_same]

theorem State.inService_superviseIdentTxn {r : Completion} (h : (s.node r.node).InService)
    (hi : (s.node r.node).state.identified = true) : ((s.superviseIdentTxn r).node r.node).InService := by
  have hreport : ((s.report r.node r.payload).node r.node).InService := by
    unfold State.report
    rw [State.modNode_node_same]
    exact h.congr rfl rfl rfl rfl rfl rfl rfl rfl
  have hoff : (s.node r.node).reprobe = 0 := h.1.served fun ho => by rw [ho] at hi; cases hi
  rw [State.superviseIdentTxn_node]
  split
  · exact hreport
  · refine (hreport.mismatch hreport.1.count ?_).congr rfl rfl rfl rfl rfl rfl rfl rfl
    unfold State.report
    rw [State.modNode_node_same]
    exact hoff

/-! ## The blocks through the end of a work item -/

/-- The invariant across an update that reaches one node in service and the queue alone. -/
theorem State.Base.only {now : Nat} {a : Option TxnIx} (h : s.Base now a) (ho : State.OnlyNode n s t)
    (hk : s.HostSideKept t) (hok : (t.node n).Ok) (hserved : (t.node n).state ≠ .disabled → (s.node n).state ≠ .disabled) :
    t.Base now a := by
  obtain ⟨-, -, hengine, -, htxns, horder, -⟩ := ho.fields
  refine ⟨fun m => ?_, h.apart.of_nodes (fun m => ?_) fun m => ?_, hengine ▸ h.engine, h.txns.congr htxns horder⟩
  · by_cases hm : m = n
    · exact hm ▸ hok
    · rw [ho.node_other hm]
      exact h.nodes m
  · obtain ⟨hseg, haddr, -⟩ := (Node.hostSide_eq_iff _ _).1 (hk.node m)
    rw [Node.place, Node.place, hseg, haddr]
  · by_cases hm : m = n
    · exact hm ▸ hserved
    · rw [ho.node_other hm]
      exact id

/-- A node that is in service before and after an update. -/
theorem State.Base.onlyServed {now : Nat} {a : Option TxnIx} (h : s.Base now a) (ho : State.OnlyNode n s t)
    (hk : s.HostSideKept t) (hs : (s.node n).state ≠ .disabled) (ht : (t.node n).InService) : t.Base now a :=
  h.only ho hk ht.1 fun _ => hs

theorem NodeState.served_of_identified {x : NodeState} (h : x.identified = true) : x ≠ .disabled := by
  rintro rfl
  cases h

theorem LinkOp.suits.served {op : LinkOp} {x : NodeState} (h : op.suits x) : x ≠ .disabled := by
  rintro rfl
  obtain ⟨-, h⟩ | ⟨-, h⟩ := h <;> cases h

/-- A work item that ends fits its node, and slot work its engine (R16, R40, R76). -/
def State.Fits (s : State) (c : WorkClass) (op : LinkOp) (n : NodeIx) : Prop :=
  match c with
  | .txn _ => (s.node n).state.identified = true
  | .slot => s.engine.state.counting ∧ op.suits (s.node n).state
  | _ => op.suits (s.node n).state

theorem State.ItemOk.fits {w : WorkItem} (h : s.ItemOk w) : s.Fits w.cls w.op w.node := by
  have hcls := h.cls
  unfold State.classAgrees at hcls
  unfold State.Fits LinkOp.suits EngineState.counting
  cases hc : w.cls with
  | slot => simpa [hc] using hcls
  | urgent => exact .inl (by simpa [hc] using hcls)
  | gapProbe => exact .inr (by simpa [hc] using hcls)
  | txn k =>
    simp only [hc, Bool.and_eq_true] at hcls
    exact hcls.1.2

theorem State.Fits.served {c : WorkClass} {op : LinkOp} (h : s.Fits c op n) : (s.node n).state ≠ .disabled := by
  cases c with
  | txn => exact NodeState.served_of_identified h
  | slot => exact h.2.served
  | urgent => exact LinkOp.suits.served h
  | gapProbe => exact LinkOp.suits.served h

/-- The work item in progress belongs to a node in service. -/
theorem State.ItemOk.served {w : WorkItem} (h : s.ItemOk w) : (s.node w.node).state ≠ .disabled := h.fits.served

/-- An entry as its work item's final outcome leaves it (R138). -/
theorem Txn.ended_sound {u : Txn} (h : u.attempts ≤ 8) (r : Completion) :
    (u.ended r).sound = true ∧ (u.ended r).state ≠ .queued ∧ (u.ended r).state ≠ .active := by
  unfold Txn.ended Txn.sound
  by_cases ho : r.outcome = .ok
  · simp [ho, h]
  · cases u.cancelMark <;> simp [ho, h]

theorem Txn.attempts_le {u : Txn} (h : u.sound = true) : u.attempts ≤ 8 := by
  unfold Txn.sound at h
  simp only [Bool.and_eq_true, decide_eq_true_eq] at h
  exact h.1.1

theorem State.base_endTxn {e : TxnIx} {r : Completion} (h : s.Base 0 (some e)) (hi : (s.node r.node).state.identified = true) :
    (s.endTxn e r).Base 0 none ∧ ((s.endTxn e r).node r.node).InService := by
  have hserved := NodeState.served_of_identified hi
  have hin : (s.node r.node).InService := ⟨h.nodes _, hserved⟩
  have hident : (if r.op = .ident ∧ r.outcome = .ok then s.superviseIdentTxn r else s).Base 0 (some e) ∧
      ((if r.op = .ident ∧ r.outcome = .ok then s.superviseIdentTxn r else s).node r.node).InService := by
    split
    · have hnode := State.inService_superviseIdentTxn hin hi
      exact ⟨h.onlyServed (s.only_superviseIdentTxn r) (s.kept_superviseIdentTxn r) hserved hnode, hnode⟩
    · exact ⟨h, hin⟩
  unfold State.endTxn State.emitTxnEnd
  dsimp only
  generalize (if r.op = .ident ∧ r.outcome = .ok then s.superviseIdentTxn r else s) = u at hident ⊢
  obtain ⟨hu, hnode⟩ := hident
  have hactive : (u.txn e).state = .active := (hu.txns.active e).1 rfl
  obtain ⟨hsound, hnq, hna⟩ := Txn.ended_sound (Txn.attempts_le (hu.txns.sound e)) r
  have hout : e ∉ u.order := fun he => by
    have := (hu.txns.queued e).1 he
    rw [hactive] at this
    cases this
  refine ⟨State.Base.emit ?_ _ _ _ _, ?_⟩
  · exact ⟨hu.nodes, hu.apart, hu.engine, hu.txns.modTxn hu.txns.nodup hsound (fun _ _ => Iff.rfl)
      ⟨fun he => absurd he hout, fun hq => absurd hq hnq⟩ (fun k hk => by simp [Ne.symm hk])
      ⟨nofun, fun ha => absurd ha hna⟩⟩
  · rw [State.emit_node]
    exact hnode

/-- A slot work item counted (R76). -/
theorem Engine.Ok.countSlot {g : Engine} (h : g.Ok 1) (hc : g.state.counting) (o : LinkOutcome) : (g.countSlot o).Ok 0 := by
  obtain ⟨hwalk, hfail⟩ := h.walked hc
  exact { h with
    still := fun hn => absurd hc hn
    walked := fun _ => ⟨hwalk, by unfold Engine.countSlot; dsimp only; split <;> omega⟩ }

/-- The owner of a work item that ends leaves the invariant, no work item aside, and the node in service (R40, R76, R138). -/
theorem State.base_ownerEvaluates {c : WorkClass} {r : Completion} (h : s.Base c.slotCount c.entry)
    (hfit : s.Fits c r.op r.node) :
    (s.ownerEvaluates c r).Base 0 none ∧ ((s.ownerEvaluates c r).node r.node).InService := by
  have hin : (s.node r.node).InService := ⟨h.nodes _, hfit.served⟩
  have hsupervise : ∀ {now : Nat}, s.Base now none → r.op.suits (s.node r.node).state → (s.supervise r).Base now none ∧
      ((s.supervise r).node r.node).InService := by
    intro now hb hsuits
    have hnode := State.inService_supervise hin hsuits
    exact ⟨hb.onlyServed (s.only_supervise r) (s.kept_supervise r) hin.2 hnode, hnode⟩
  cases c with
  | txn k => exact State.base_endTxn h hfit
  | urgent => exact hsupervise h hfit
  | gapProbe => exact hsupervise h hfit
  | slot =>
    obtain ⟨hb, hnode⟩ := hsupervise h hfit.2
    have hengine : (s.supervise r).engine = s.engine := (s.only_supervise r).fields.2.2.1
    exact ⟨⟨hb.nodes, hb.apart, hb.engine.countSlot (by rw [hengine]; exact hfit.1) _, hb.txns.congr rfl rfl⟩, hnode⟩

theorem State.base_completePending {now : Nat} {a : Option TxnIx} (h : s.Base now a) (who : Awaited) :
    (s.completePending who).Base now a := by
  unfold State.completePending
  split
  · exact h.same rfl rfl rfl rfl
  · exact h

/-- A node taken out of service agrees with itself (R31). -/
theorem Node.Ok.disabled (h : x.Ok) :
    ({ x with due := false, matchState := false, inputAge := 255, reprobe := 0, state := .disabled } : Node).Ok :=
  { h with
    wait := Nat.zero_le _
    age := Nat.le_refl _
    online := nofun
    suspect := nofun
    served := fun _ => rfl
    matched := nofun
    lengths := fun hs => absurd rfl hs
    aged := fun _ => rfl }

/-- A node returned to PROBING agrees with itself (R33). -/
theorem Node.InService.reprobed (h : x.InService) :
    ({ x with failCount := 0, matchState := false, reprobe := 0, state := .probing } : Node).InService :=
  ⟨{ h.1 with
      count := Nat.zero_le _
      wait := Nat.zero_le _
      online := nofun
      suspect := nofun
      served := fun _ => rfl
      matched := nofun
      lengths := fun _ => h.1.lengths h.2
      aged := fun hs => hs.elim nofun nofun }, nofun⟩

theorem State.Base.disableNode {now : Nat} {a : Option TxnIx} (h : s.Base now a) (hs : (s.node n).state ≠ .disabled) :
    (s.disableNode n).Base now a :=
  h.only (s.only_disableNode n) (s.kept_disableNode n) (by rw [State.disableNode_node]; exact (h.nodes n).disabled)
    fun _ => hs

theorem State.Base.reprobeNode {now : Nat} {a : Option TxnIx} (h : s.Base now a) (hs : (s.node n).state ≠ .disabled) :
    (s.reprobeNode n).Base now a :=
  h.onlyServed (s.only_reprobeNode n) (s.kept_reprobeNode n) hs (by
    rw [State.reprobeNode_node]
    exact Node.InService.reprobed ⟨h.nodes n, hs⟩)

theorem State.Base.completeNodeCmd {now : Nat} {a : Option TxnIx} {w : WorkItem} (h : s.Base now a)
    (hs : (s.node w.node).state ≠ .disabled) : (s.completeNodeCmd w).Base now a := by
  unfold State.completeNodeCmd
  split
  · exact h
  · exact State.base_completePending (h.disableNode hs) _
  · exact State.base_completePending (h.reprobeNode hs) _

/-- A STOPPED engine (R80). -/
theorem Engine.Ok.stopped {g : Engine} {now : Nat} (h : g.Ok now) (m : Nat) :
    ({ g.clearCounts with timer := none, state := .stopped } : Engine).Ok m where
  latched := h.latched
  cursor := h.cursor
  overruns := h.overruns
  dropped := Nat.zero_le _
  timer := nofun
  noTimer _ := .inl rfl
  still _ := ⟨rfl, rfl, rfl⟩
  walked hc := hc.elim nofun nofun

theorem State.enterStopped_same (s : State) : s.enterStopped.nodes = s.nodes ∧
    s.enterStopped.engine = { s.engine.clearCounts with timer := none, state := .stopped } ∧
    s.enterStopped.txns = s.txns ∧ s.enterStopped.order = s.order := by
  rw [State.enterStopped_eq]
  exact ⟨State.emits_nodes .., State.emits_engine .., State.emits_txns .., State.emits_order ..⟩

theorem State.Base.enterStopped {now : Nat} {a : Option TxnIx} (h : s.Base now a) (m : Nat) : s.enterStopped.Base m a := by
  obtain ⟨hnodes, hengine, htxns, horder⟩ := s.enterStopped_same
  refine State.Base.same (s := s.modEngine fun g => { g.clearCounts with timer := none, state := .stopped }) ?_ hnodes hengine htxns
    horder
  exact ⟨h.nodes, h.apart, h.engine.stopped m, h.txns.congr rfl rfl⟩

theorem State.Base.stopIfDraining {a : Option TxnIx} (h : s.Base 0 a) :
    s.stopIfDraining.Base 0 a ∧ s.stopIfDraining.engine.state ≠ .draining := by
  unfold State.stopIfDraining
  split
  · refine ⟨State.base_completePending (h.enterStopped 0) _, ?_⟩
    have hengine : (s.enterStopped.completePending .stopScan).engine = s.enterStopped.engine := by
      unfold State.completePending
      split <;> rfl
    rw [hengine, s.enterStopped_same.2.1]
    nofun
  · next hd => exact ⟨h, hd⟩

/-- A work item that ends leaves an idle link's invariant, and no engine in DRAINING. -/
theorem State.Base.finishWork {w : WorkItem} {r : Completion} (h : s.Base w.cls.slotCount w.cls.entry)
    (hfit : s.Fits w.cls w.op w.node) (hnode : r.node = w.node) (hop : r.op = w.op) :
    (s.finishWork w r).Base 0 none ∧ (s.finishWork w r).engine.state ≠ .draining := by
  rw [← hnode, ← hop] at hfit
  have hidle : (s.modLink fun l => { l with work := none }).Base w.cls.slotCount w.cls.entry := h.same rfl rfl rfl rfl
  obtain ⟨howner, hin⟩ := State.base_ownerEvaluates hidle hfit
  unfold State.finishWork
  exact State.Base.stopIfDraining (howner.completeNodeCmd (hnode ▸ hin.2))

/-- The choice made where a work item has ended leaves the invariant. -/
theorem State.Base.finishChoose {w : WorkItem} {r : Completion} (h : s.Base w.cls.slotCount w.cls.entry)
    (hfit : s.Fits w.cls w.op w.node) (hnode : r.node = w.node) (hop : r.op = w.op) : (s.finishWork w r).choose.Inv := by
  obtain ⟨hb, hd⟩ := h.finishWork hfit hnode hop
  exact hb.choose (by rw [State.finishWork_link]) hd

end Sys2Proof.Machine
end

section
/-! SUPPORT. The joint invariant across the end of an attempt: completion, retry, withdrawal and the select line. -/

namespace Sys2Proof.Machine

variable {s t : State}

/-- The work item in progress depends on nothing of the link but the profiles. -/
theorem State.itemFrame_modLink (s : State) (f : Link → Link) (hf : (f s.link).profiles = s.link.profiles) (w : WorkItem) :
    s.ItemFrame (s.modLink f) w := ⟨rfl, hf, fun _ _ => rfl, fun _ => id, id⟩

/-! ## Completion -/

theorem State.updateToggle_of_failed (s : State) {r : Completion} (h : r.outcome ≠ .ok) : s.updateToggle r = s := by
  unfold State.updateToggle
  rw [if_neg h]

theorem State.Base.updateToggle {now : Nat} {a : Option TxnIx} (h : s.Base now a) (r : Completion) :
    (s.updateToggle r).Base now a := by
  unfold State.updateToggle
  split
  · refine h.only (s.only_modNode r.node _) (s.kept_modNode r.node _ fun _ => rfl) ?_ ?_
    · rw [State.modNode_node_same]
      exact (h.nodes _).congr rfl rfl rfl rfl rfl rfl rfl rfl
    · rw [State.modNode_node_same]
      exact id
  · exact h

/-- A transaction whose attempt has completed carries as many attempts as its work item (R136). -/
theorem State.Inv.attempts {w : WorkItem} {x : Exchange} {k : Byte} (h : s.Inv) (hw : s.link.work = some w)
    (hx : w.phase = .inFlight x) (hk : w.cls = .txn k) : (s.txn (entryOf k)).attempts + 1 = w.attempt := by
  have hcls := (h.work.item w hw).cls
  unfold State.classAgrees at hcls
  rw [hk] at hcls
  simp only [hx, Bool.and_eq_true, beq_iff_eq] at hcls
  exact hcls.2

theorem Txn.sound_countAttempt {u : Txn} (h : u.sound = true) (hs : u.state = .active) (hle : u.attempts + 1 ≤ 8) :
    ({ u with attempts := u.attempts + 1 } : Txn).sound = true := by
  unfold Txn.sound at h ⊢
  simp only [hs, Bool.and_eq_true] at h ⊢
  exact ⟨⟨decide_eq_true hle, h.1.2⟩, h.2⟩

/-- A completed attempt counted in the entry of its work item (R136). -/
theorem State.Base.countAttempt {c : WorkClass} (h : s.Base c.slotCount c.entry)
    (hle : ∀ k, c = .txn k → (s.txn (entryOf k)).attempts + 1 ≤ 8) : (s.countAttempt c).Base c.slotCount c.entry := by
  unfold State.countAttempt
  cases c with
  | txn k =>
    have hactive : (s.txn (entryOf k)).state = .active := (h.txns.active _).1 rfl
    exact ⟨h.nodes, h.apart, h.engine, h.txns.modTxn (l := s.order) h.txns.nodup
      (Txn.sound_countAttempt (h.txns.sound _) hactive (hle k rfl)) (fun _ _ => Iff.rfl) (h.txns.queued _)
      (fun _ _ => Iff.rfl) (h.txns.active _)⟩
  | _ => exact h

theorem State.countAttempt_other (s : State) (c : WorkClass) :
    (s.countAttempt c).nodes = s.nodes ∧ (s.countAttempt c).engine = s.engine ∧ (s.countAttempt c).link = s.link := by
  unfold State.countAttempt
  split <;> exact ⟨rfl, rfl, rfl⟩

/-- An exchange that agrees with its work item, in the parts its completion record repeats. -/
theorem State.exchangeAgrees_work {w : WorkItem} {x : Exchange} (h : s.exchangeAgrees w x = true) :
    x.node = w.node ∧ x.op = w.op ∧ x.toggle = w.toggle := by
  simp only [State.exchangeAgrees, Bool.and_eq_true, beq_iff_eq] at h
  obtain ⟨⟨⟨⟨⟨⟨hnode, hop⟩, htoggle⟩, -⟩, -⟩, -⟩, -⟩ := h
  exact ⟨hnode, hop, htoggle⟩

theorem Exchange.complete_eq (x : Exchange) (k : Nat) (d : List Byte) :
    (x.complete k d).node = x.node ∧ (x.complete k d).op = x.op ∧ (x.complete k d).toggle = x.toggle := ⟨rfl, rfl, rfl⟩

/-- RETRY_LIMIT is at most 7 (R17). -/
theorem State.retryLimit_le (h : s.registersLegal = true) : s.engine.retryLimit.toNat ≤ 7 := by
  obtain ⟨-, -, hengine, -⟩ := (State.registersLegal_iff s).1 h
  unfold Engine.configLegal at hengine
  simp only [Bool.and_eq_true, decide_eq_true_eq] at hengine
  obtain ⟨⟨⟨⟨⟨-, -⟩, hretry⟩, -⟩, -⟩, -⟩ := hengine
  exact hretry

/-- A work item keeps agreeing while its completed attempt waits to be retried (R17, R136). -/
theorem State.ItemOk.retryPending {w : WorkItem} {x : Exchange} (h : s.ItemOk w) (hx : w.phase = .inFlight x)
    (r : Completion) : (s.countAttempt w.cls).ItemOk { w with phase := .retryPending r } := by
  obtain ⟨hnodes, hengine, -⟩ := s.countAttempt_other w.cls
  have hnode := State.node_congr hnodes w.node
  refine ⟨?_, ?_, h.first, h.last, h.command, by rw [hengine]; exact h.drained⟩
  · have hcls := h.cls
    unfold State.classAgrees at hcls ⊢
    rw [hengine, hnode]
    cases hc : w.cls with
    | txn k =>
      have htxn : (s.countAttempt (.txn k)).txn (entryOf k) =
          { s.txn (entryOf k) with attempts := (s.txn (entryOf k)).attempts + 1 } := State.modTxn_txn_same ..
      simp only [hc, hx] at hcls
      simp only [State.handle, htxn] at hcls ⊢
      exact hcls
    | _ => simpa only [hc] using hcls
  · rw [hnode]
    exact h.toggle

theorem State.Inv.completeAttempt {w : WorkItem} {x : Exchange} (h : s.Inv) (hlegal : s.registersLegal = true)
    (hw : s.link.work = some w) (hx : w.phase = .inFlight x) (d : List Byte) (o : RetryOrder) :
    (s.completeAttempt w x d o).Inv := by
  have hitem := h.work.item w hw
  have hattempt := h.work.attempt w hw
  rw [State.AttemptOk, hx] at hattempt
  obtain ⟨hnode, hop, htoggle⟩ := State.exchangeAgrees_work hattempt
  obtain ⟨hrnode, hrop, hrtoggle⟩ := x.complete_eq w.attempt d
  unfold State.completeAttempt
  dsimp only
  generalize hr : x.complete w.attempt d = r at hrnode hrop hrtoggle ⊢
  have hrested : (s.modLink fun l => { l with rested := false }).Base w.cls.slotCount w.cls.entry :=
    (h.base_of_work hw).same rfl rfl rfl rfl
  have htxns : ((s.modLink fun l => { l with rested := false }).updateToggle r).txns = s.txns := by
    unfold State.updateToggle
    split <;> rfl
  have hcounted := (hrested.updateToggle r).countAttempt fun k hk => by
    rw [State.txn_congr htxns, h.attempts hw hx hk]
    exact hitem.last
  split
  · next hretry =>
    simp only [State.retries, Bool.and_eq_true, decide_eq_true_eq, Bool.not_eq_true', bne_iff_ne] at hretry
    obtain ⟨⟨⟨hretryable, hlimit⟩, hfree⟩, hd⟩ := hretry
    have hfailed : r.outcome ≠ .ok := fun hok => by rw [hok] at hretryable; cases hretryable
    rw [State.updateToggle_of_failed _ hfailed] at hcounted hlimit hd ⊢
    obtain ⟨-, hengine, -⟩ := (s.modLink fun l => { l with rested := false }).countAttempt_other w.cls
    rw [hengine] at hlimit hd
    have hseven : w.attempt ≤ 7 := Nat.le_trans hlimit (State.retryLimit_le hlegal)
    have hlater : (s.modLink fun l => { l with rested := false }).ItemOk w :=
      (s.itemFrame_modLink _ rfl w).item hitem
    have hwaits := hlater.retryPending hx r
    have hpending : (((s.modLink fun l => { l with rested := false }).countAttempt w.cls).modLink fun l =>
        { l with work := some { w with phase := .retryPending r } }).Inv := by
      refine State.Base.inv_of_work (w := { w with phase := .retryPending r }) (hcounted.same rfl rfl rfl rfl) rfl ?_ ?_
      · exact (State.itemFrame_modLink _ _ rfl _).item hwaits
      · simp only [State.AttemptOk, State.retryAgrees, Bool.and_eq_true, decide_eq_true_eq, Bool.not_eq_true', bne_iff_ne,
          beq_iff_eq]
        refine ⟨⟨⟨⟨⟨⟨hrnode.trans hnode, hrop.trans hop⟩, hrtoggle.trans htoggle⟩, hretryable⟩, hfree⟩, ?_⟩, hseven⟩
        rw [State.modLink_engine, hengine]
        exact hd
    cases o with
    | retryFirst => exact hpending.handOverRetry
    | requestFirst => exact hpending
  · refine hcounted.finishChoose ?_ (hrnode.trans hnode) (hrop.trans hop)
    have hfit := hitem.fits
    have hstate : ((((s.modLink fun l => { l with rested := false }).updateToggle r).countAttempt w.cls).node w.node).state =
        (s.node w.node).state := by
      rw [State.node_congr (State.countAttempt_other _ _).1]
      unfold State.updateToggle
      split
      · rw [State.modNode_node]
        split
        · next he => rw [he]; rfl
        · rfl
      · rfl
    have hengine : (((s.modLink fun l => { l with rested := false }).updateToggle r).countAttempt w.cls).engine = s.engine := by
      rw [(State.countAttempt_other _ _).2.1]
      unfold State.updateToggle
      split <;> rfl
    unfold State.Fits at hfit ⊢
    rw [hstate, hengine]
    exact hfit

theorem State.Inv.completion (h : s.Inv) (hlegal : s.registersLegal = true) (d : List Byte) (o : RetryOrder) :
    (s.completion d o).Inv := by
  unfold State.completion
  split
  · next w hw =>
    split
    · next x hx =>
      split
      · exact h.completeAttempt hlegal hw hx d o
      · exact h
    · exact h
  · exact h

/-! ## Withdrawal of a retry -/

/-- A suppressed work item of which a retry is withdrawn, if one waited. -/
theorem State.Base.withdrawRetry {w : WorkItem} (h : s.Base w.cls.slotCount w.cls.entry) (hw : s.link.work = some w)
    (hitem : s.ItemOk w) (hflight : ∀ x, w.phase = .inFlight x → s.exchangeAgrees w x = true)
    (hlast : ∀ r, w.phase = .retryPending r → r.node = w.node ∧ r.op = w.op) : s.withdrawRetry.Inv := by
  unfold State.withdrawRetry
  rw [hw]
  dsimp only
  split
  · next r hr =>
    obtain ⟨hnode, hop⟩ := hlast r hr
    exact h.finishChoose hitem.fits hnode hop
  · next x hx =>
    refine h.inv_of_work hw hitem ?_
    rw [State.AttemptOk, hx]
    exact hflight x hx

/-- A work item in progress, in the parts a withdrawal needs. -/
theorem State.AttemptOk.parts {w : WorkItem} (h : s.AttemptOk w) :
    (∀ x, w.phase = .inFlight x → s.exchangeAgrees w x = true) ∧
    (∀ r, w.phase = .retryPending r → r.node = w.node ∧ r.op = w.op) := by
  refine ⟨fun x hx => ?_, fun r hr => ?_⟩
  · rwa [State.AttemptOk, hx] at h
  · rw [State.AttemptOk, hr] at h
    simp only [State.retryAgrees, Bool.and_eq_true, beq_iff_eq] at h
    obtain ⟨⟨⟨⟨⟨⟨hnode, hop⟩, -⟩, -⟩, -⟩, -⟩, -⟩ := h
    exact ⟨hnode, hop⟩

/-- A request that suppresses the retries of the work item in progress, and notes a node command or begins the end of the
engine's run, leaves the invariant: an attempt in flight runs on and a retry that waits is withdrawn (R18, R19). -/
theorem State.Inv.suppressed {w : WorkItem} (h : s.Inv) (hw : s.link.work = some w) {c : Option NodeCmd}
    (htw : t.link.work = some { w with suppressed := true, nodeCmd := c }) (hprofiles : t.link.profiles = s.link.profiles)
    (hnodes : t.nodes = s.nodes) (hbase : t.Base w.cls.slotCount w.cls.entry)
    (htxn : ∀ k, w.cls = .txn k → (t.txn (entryOf k)).linkSide = (s.txn (entryOf k)).linkSide)
    (hcount : w.cls = .slot → s.engine.state.counting → t.engine.state.counting) : t.withdrawRetry.Inv := by
  have hitem := h.work.item w hw
  obtain ⟨hflight, hlast⟩ := (h.work.attempt w hw).parts
  have hnode := State.node_congr hnodes w.node
  refine State.Base.withdrawRetry (w := { w with suppressed := true, nodeCmd := c }) hbase htw ?_ ?_ hlast
  · refine ⟨?_, ?_, hitem.first, hitem.last, fun _ => rfl, fun _ => rfl⟩
    · have hcls := hitem.cls
      unfold State.classAgrees at hcls ⊢
      rw [hnode]
      cases hc : w.cls with
      | slot =>
        simp only [hc, Bool.and_eq_true, Bool.or_eq_true, beq_iff_eq] at hcls ⊢
        exact ⟨hcount hc hcls.1, hcls.2⟩
      | txn k =>
        obtain ⟨hstate, hgen, hop, hn, -, hatt⟩ := (Txn.linkSide_eq_iff _ _).1 (htxn k hc)
        simp only [hc, State.handle, Txn.nodeIx, hstate, hgen, hop, hn, hatt] at hcls ⊢
        exact hcls
      | _ => simpa only [hc] using hcls
    · rw [hnode]
      exact hitem.toggle
  · intro x hx
    have hagrees := hflight x hx
    have hreply : t.replyLength w.cls w.op w.node = s.replyLength w.cls w.op w.node := by
      cases hc : w.cls with
      | txn k =>
        obtain ⟨-, -, -, -, hn, -⟩ := (Txn.linkSide_eq_iff _ _).1 (htxn k hc)
        cases w.op <;> simp only [State.replyLength, hnode, hn]
      | _ => cases w.op <;> simp only [State.replyLength, hnode]
    simp only [State.exchangeAgrees, State.profileOf, hnode, hprofiles, hreply] at hagrees ⊢
    exact hagrees

/-! ## The select line -/

theorem State.Inv.assertSelect (h : s.Inv) : s.assertSelect.Inv := by
  unfold State.assertSelect
  split
  swap
  · exact h
  next w hw =>
  split
  swap
  · exact h
  next x hx =>
  have hitem := h.work.item w hw
  obtain ⟨hflight, -⟩ := (h.work.attempt w hw).parts
  have hbase : (s.modLink fun l => { l with
      rested := true, work := some { w with phase := .inFlight { x with selected := true } } }).Base w.cls.slotCount
      w.cls.entry := (h.base_of_work hw).same rfl rfl rfl rfl
  refine State.Base.inv_of_work (w := { w with phase := .inFlight { x with selected := true } }) hbase rfl ?_ ?_
  · refine ⟨?_, hitem.toggle, hitem.first, hitem.last, hitem.command, hitem.drained⟩
    have hcls := hitem.cls
    unfold State.classAgrees at hcls ⊢
    rw [hx] at hcls
    exact hcls
  · exact hflight x hx

theorem State.Inv.rest (h : s.Inv) : (s.modLink fun l => { l with rested := true }).Inv :=
  State.Base.inv (h.base.same rfl rfl rfl rfl) (h.work.frame rfl id fun w _ => s.itemFrame_modLink _ rfl w)

end Sys2Proof.Machine
end

section
/-! SUPPORT. The joint invariant across cycle starts and the commands of the command register. -/

namespace Sys2Proof.Machine

variable {s t : State} {n : NodeIx}

/-! ## Registers the engine's invariant leans on -/

theorem Engine.legal_parts {g : Engine} (h : g.configLegal = true) : 1 ≤ g.period.toNat ∧ g.schedLen.toNat ≤ 32 := by
  unfold Engine.configLegal at h
  simp only [Bool.and_eq_true, decide_eq_true_eq, bne_iff_ne] at h
  obtain ⟨⟨⟨⟨⟨hperiod, hlen⟩, -⟩, -⟩, -⟩, -⟩ := h
  refine ⟨Nat.one_le_iff_ne_zero.2 fun hz => hperiod (BitVec.eq_of_toNat_eq ?_), hlen⟩
  simpa using hz

theorem State.engine_legal (h : s.registersLegal = true) : s.engine.configLegal = true := by
  obtain ⟨-, -, hengine, -⟩ := (State.registersLegal_iff s).1 h
  exact hengine

/-! ## Cycle starts -/

/-- Slot work is in progress only while a cycle is being worked. -/
theorem State.Inv.slotCount_eq (h : s.Inv) (hc : ¬ s.engine.state.counting) : s.link.slotCount = 0 := by
  cases hw : s.link.work with
  | none => exact Link.slotCount_of_idle hw
  | some w =>
    rw [Link.slotCount_of_work hw, WorkClass.slotCount, if_neg]
    intro hs
    have hfit := (h.work.item w hw).fits
    rw [hs] at hfit
    exact hc hfit.1

theorem State.Inv.slotWork_eq (h : s.Inv) (hc : ¬ s.engine.state.counting) : s.link.slotWork = false := by
  have hcount := h.slotCount_eq hc
  unfold Link.slotCount at hcount
  by_contra hs
  rw [if_pos (by simpa using hs)] at hcount
  cases hcount

theorem EngineState.not_counting_of_waiting {x : EngineState} (h : x = .waiting) : ¬ x.counting := by
  rintro (hc | hc) <;> rw [h] at hc <;> cases hc

theorem EngineState.not_counting_of_stopped {x : EngineState} (h : x = .stopped) : ¬ x.counting := by
  rintro (hc | hc) <;> rw [h] at hc <;> cases hc

theorem Node.Ok.cycleDuties {x : Node} (h : x.Ok) : x.cycleDuties.Ok := by
  have hage := succUpTo_le h.age
  unfold Node.cycleDuties
  split
  · next hs => exact { h with age := hage, aged := fun ha => by rw [hs] at ha; exact ha.elim nofun nofun }
  · next hs => exact { h with age := hage, aged := fun ha => by rw [hs] at ha; exact ha.elim nofun nofun }
  · next hs => exact { h with age := hage, aged := fun ha => by rw [hs] at ha; exact ha.elim nofun nofun }
  · next hs =>
    exact { h with
      age := hage
      wait := Nat.le_trans (Nat.sub_le _ _) h.wait
      served := fun hn => absurd hs hn
      aged := fun ha => by rw [hs] at ha; exact ha.elim nofun nofun }
  · exact h
  · exact h

theorem Node.cycleDuties_linkSide (x : Node) : x.cycleDuties.linkSide = x.linkSide := by
  unfold Node.cycleDuties
  split <;> rfl

theorem State.beginCycle_engine (s : State) : s.beginCycle.engine =
    { s.engine with
      evaluated := 0, failed := 0, dropped := 0, cycle := s.engine.cycle + 1, latchedLen := s.engine.schedLen.toNat
      cursor := 0, state := .cycling } := rfl

theorem State.beginCycle_node (s : State) (n : NodeIx) : s.beginCycle.node n = (s.node n).cycleDuties :=
  State.mapNodes_node (s.modEngine _) _ n

/-- A cycle start taken in WAITING leaves the invariant (R73). -/
theorem State.Inv.beginCycle (h : s.Inv) (hw : s.engine.state = .waiting) (hlen : s.engine.schedLen.toNat ≤ 32) :
    s.beginCycle.Inv := by
  have hnc := EngineState.not_counting_of_waiting hw
  refine h.tend rfl rfl rfl (fun n => ?_) (fun n => ?_) ?_ nofun fun hs => absurd hs (by simp [h.slotWork_eq hnc])
  · rw [State.beginCycle_node]
    exact (h.nodes n).cycleDuties
  · rw [State.beginCycle_node, Node.cycleDuties_linkSide]
  · rw [State.beginCycle_engine, h.slotCount_eq hnc]
    exact
      { latched := hlen
        cursor := Nat.zero_le _
        overruns := h.engine.overruns
        dropped := Nat.zero_le _
        timer := fun k hk => by
          obtain ⟨hpos, hsource, -⟩ := h.engine.timer k hk
          exact ⟨hpos, hsource, nofun⟩
        noTimer := fun hk => .inr ((h.engine.noTimer hk).resolve_left (by simp [hw]))
        still := fun hc => absurd (.inl rfl) hc
        walked := fun _ => ⟨Nat.le_refl _, Nat.le_refl _⟩ }

theorem State.Inv.overrun (h : s.Inv) (hc : s.engine.state.counting) : s.overrun.Inv := by
  refine h.modEngine ?_ id fun _ => id
  exact { h.engine with
    overruns := succUpTo_le h.engine.overruns
    dropped := succUpTo_le h.engine.dropped
    still := fun hn => absurd hc hn }

/-- A cycle start, from whatever source, leaves the invariant (R73, R74). -/
theorem State.Inv.cycleStart (h : s.Inv) (hlen : s.engine.schedLen.toNat ≤ 32) : s.cycleStart.Inv := by
  unfold State.cycleStart
  split
  · next hw => exact (h.beginCycle hw hlen).idleBoundary
  · next hc => exact h.overrun (.inl hc)
  · next hd => exact h.overrun (.inr hd)
  · exact h

theorem State.Inv.loadTimer (h : s.Inv) (hperiod : 1 ≤ s.engine.period.toNat) (hsource : s.engine.source = .timer)
    (hrun : s.engine.state ≠ .stopped) : (s.modEngine Engine.loadTimer).Inv := by
  refine h.modEngine ?_ id fun _ => id
  exact { h.engine with
    timer := fun k hk => by
      cases hk
      exact ⟨hperiod, hsource, hrun⟩
    noTimer := nofun }

theorem State.Inv.timerExpiry (h : s.Inv) (hlegal : s.registersLegal = true) : s.timerExpiry.Inv := by
  obtain ⟨hperiod, hlen⟩ := Engine.legal_parts (State.engine_legal hlegal)
  unfold State.timerExpiry
  split
  · next k hk =>
    obtain ⟨-, hsource, hrun⟩ := h.engine.timer k hk
    exact (h.loadTimer hperiod hsource hrun).cycleStart hlen
  · exact h

theorem State.Inv.syncEdge (h : s.Inv) (hlegal : s.registersLegal = true) (e : Edge) : (s.syncEdge e).Inv := by
  unfold State.syncEdge
  split
  · exact h.cycleStart (Engine.legal_parts (State.engine_legal hlegal)).2
  · exact h

/-! ## Engine commands -/

theorem State.Inv.answer (h : s.Inv) (c : CmdStatus) : (s.answer c).Inv := h.same rfl rfl rfl rfl rfl

theorem State.Inv.raise (h : s.Inv) (e : HostError) (a : Addr) : (s.raise e a).Inv := h.same rfl rfl rfl rfl rfl

theorem State.Inv.refuse (h : s.Inv) : s.refuseCommand.Inv := h.same rfl rfl rfl rfl rfl

/-- The engine started, before its first cycle: WAITING with its latched length, its gap-probe marks clear and its event
produced (R72). -/
def State.started (s : State) : State :=
  (((s.answer .ok).modEngine fun g => { g with latchedLen := g.schedLen.toNat }).enterWaiting).emit .scanState Config.noNode
    EngineState.waiting.code 1

theorem State.cmdStartScan_eq (s : State) : s.cmdStartScan =
    if s.engine.state = .stopped then
      if s.started.engine.source = .timer then (s.started.modEngine Engine.loadTimer).beginCycle.idleBoundary
      else s.started.idleBoundary
    else s.refuseCommand := rfl

theorem State.started_engine (s : State) :
    s.started.engine = { s.engine with latchedLen := s.engine.schedLen.toNat, state := .waiting } :=
  State.emit_engine ..

theorem State.started_node (s : State) (n : NodeIx) : s.started.node n = { s.node n with gapMark := false } := by
  unfold State.started State.enterWaiting
  rw [State.emit_node, State.mapNodes_node]
  rfl

/-- The engine started, with its timer loaded exactly where its source is TIMER, leaves the invariant (R69, R72). -/
theorem State.Inv.start (h : s.Inv) (hs : s.engine.state = .stopped) (hlen : s.engine.schedLen.toNat ≤ 32)
    {k : Option Nat} (hsome : ∀ i, k = some i → 1 ≤ i ∧ s.engine.source = .timer)
    (hnone : k = none → s.engine.source ≠ .timer) : (s.started.modEngine fun g => { g with timer := k }).Inv := by
  have hnc := EngineState.not_counting_of_stopped hs
  refine h.tend (State.emit_link ..) (State.emit_txns ..) (State.emit_order ..) (fun n => ?_) (fun n => ?_) ?_ ?_
    fun hw => absurd hw (by simp [h.slotWork_eq hnc])
  · rw [State.modEngine_node, State.started_node]
    exact (h.nodes n).congr rfl rfl rfl rfl rfl rfl rfl rfl
  · rw [State.modEngine_node, State.started_node]
    rfl
  · rw [State.modEngine_engine, State.started_engine]
    exact
      { latched := hlen
        cursor := h.engine.cursor
        overruns := h.engine.overruns
        dropped := h.engine.dropped
        timer := fun i hi => ⟨(hsome i hi).1, (hsome i hi).2, nofun⟩
        noTimer := fun hk => .inr (hnone hk)
        still := fun _ => h.engine.still hnc
        walked := fun hc => hc.elim nofun nofun }
  · rw [State.modEngine_engine, State.started_engine]
    nofun

theorem State.Inv.cmdStartScan (h : s.Inv) (hlegal : s.registersLegal = true) : s.cmdStartScan.Inv := by
  obtain ⟨hperiod, hlen⟩ := Engine.legal_parts (State.engine_legal hlegal)
  rw [State.cmdStartScan_eq]
  split
  swap
  · exact h.refuse
  next hs =>
  have hengine := s.started_engine
  split
  · next ht =>
    rw [hengine] at ht
    refine (State.Inv.beginCycle (h.start hs hlen (k := some s.started.engine.period.toNat) ?_ nofun) ?_ ?_).idleBoundary
    · rintro i hi
      rw [Option.some.injEq] at hi
      exact ⟨hi ▸ (by rw [hengine]; exact hperiod), ht⟩
    · rw [State.modEngine_engine, hengine]
    · rw [State.modEngine_engine, hengine]
      exact hlen
  · next ht =>
    rw [hengine] at ht
    have hstill : s.engine.timer = none := by
      cases hk : s.engine.timer with
      | none => rfl
      | some k => exact absurd hs (h.engine.timer k hk).2.2
    refine State.Inv.idleBoundary ((h.start hs hlen (k := none) nofun fun _ => ht).same rfl ?_ rfl rfl rfl)
    have htimer : s.started.engine.timer = none := by rw [hengine]; exact hstill
    rw [State.modEngine_engine, ← htimer]

theorem State.Inv.enterStopped (h : s.Inv) (hs : s.link.slotWork = false) : s.enterStopped.Inv := by
  obtain ⟨hnodes, hengine, htxns, horder⟩ := s.enterStopped_same
  have hnode := State.node_congr hnodes
  refine h.tend (State.enterStopped_link s) htxns horder (fun n => ?_) (fun n => ?_) ?_ ?_ ?_
  · rw [hnode]
    exact h.nodes n
  · rw [hnode]
  · rw [hengine]
    exact h.engine.stopped _
  · rw [hengine]
    nofun
  · rw [hs]
    nofun

theorem State.Inv.cmdStopScan (h : s.Inv) : s.cmdStopScan.Inv := by
  unfold State.cmdStopScan
  split
  · exact h.refuse
  · exact h.refuse
  · next hw => exact (h.answer .ok).enterStopped (h.slotWork_eq (EngineState.not_counting_of_waiting hw))
  · next hc =>
    split
    · next hi =>
      refine (h.answer .ok).enterStopped ?_
      have hnone : s.link.work = none := by simpa [Link.idle] using hi
      simp [Link.slotWork, hnone]
    · next hi =>
      cases hw : s.link.work with
      | none => simp [Link.idle, hw] at hi
      | some w =>
        have hb := h.base_of_work hw
        refine h.suppressed hw (c := w.nodeCmd) ?_ rfl rfl ?_ (fun _ _ => rfl) (fun _ _ => .inr rfl)
        · simp [State.suppress, hw]
        · exact ⟨hb.nodes, hb.apart, { hb.engine with
              timer := fun k hk => by
                obtain ⟨hpos, hsource, -⟩ := hb.engine.timer k hk
                exact ⟨hpos, hsource, nofun⟩
              noTimer := fun hk => .inr ((hb.engine.noTimer hk).resolve_left (by simp [hc]))
              still := fun hn => absurd (.inr rfl) hn
              walked := fun _ => hb.engine.walked (.inl hc) }, hb.txns.congr rfl rfl⟩

theorem State.Inv.cmdTriggerCycle (h : s.Inv) (hlegal : s.registersLegal = true) : s.cmdTriggerCycle.Inv := by
  unfold State.cmdTriggerCycle
  split
  · exact h.refuse
  · exact (h.answer .ok).cycleStart (Engine.legal_parts (State.engine_legal hlegal)).2

/-! ## Node commands -/

/-- The invariant across an update that reaches the queue and one node of which no work is in progress. -/
theorem State.Inv.only (h : s.Inv) (ho : State.OnlyNode n s t) (hk : s.HostSideKept t) (hok : (t.node n).Ok)
    (hserved : (t.node n).state ≠ .disabled → (s.node n).state ≠ .disabled ∨ s.duplicate n = false)
    (hfree : ∀ w, s.link.work = some w → w.node ≠ n) : t.Inv := by
  obtain ⟨-, -, hengine, hlink, htxns, horder, -⟩ := ho.fields
  have hplace : ∀ m, (t.node m).place = (s.node m).place := fun m => by
    obtain ⟨hseg, haddr, -⟩ := (Node.hostSide_eq_iff _ _).1 (hk.node m)
    rw [Node.place, Node.place, hseg, haddr]
  refine h.setNodes hengine hlink htxns horder (fun m => ?_) ?_ fun w hw => by rw [ho.node_other (hfree w hw)]
  · by_cases hm : m = n
    · exact hm ▸ hok
    · rw [ho.node_other hm]
      exact h.nodes m
  · have hstate : ∀ m, m ≠ n → (t.node m).state = (s.node m).state := fun m hm => by rw [ho.node_other hm]
    intro m k hkm hm hks
    rw [hplace, hplace]
    by_cases hmn : m = n
    · subst hmn
      rw [hstate k hkm] at hks
      obtain hs | hdup := hserved hm
      · exact h.apart m k hkm hs hks
      · intro hp
        rw [(s.duplicate_iff m).2 ⟨k, hkm, hks, hp⟩] at hdup
        cases hdup
    · rw [hstate m hmn] at hm
      by_cases hkn : k = n
      · subst hkn
        obtain hs | hdup := hserved hks
        · exact h.apart m k hkm hm hs
        · intro hp
          rw [(s.duplicate_iff k).2 ⟨m, hkm.symm, hm, hp.symm⟩] at hdup
          cases hdup
      · rw [hstate k hkn] at hks
        exact h.apart m k hkm hm hks

theorem State.Inv.probeBoundary (h : s.Inv) (n : NodeIx) : (s.probeBoundary n).Inv := by
  unfold State.probeBoundary
  split
  · exact h.idleBoundary
  · exact h

theorem State.enableNode_node (s : State) (n : NodeIx) : (s.enableNode n).node n = { s.node n with
    failCount := 0, seq := false, alert := false, matchState := false, reprobe := 0, inputAge := 255,
    lastOutcome := none, lastStatus := 0, reportedType := 0, reportedOut := 0, reportedIn := 0,
    input := Vector.replicate 8 0, due := false, baseline := false, state := .probing } := by
  unfold State.enableNode
  rw [State.enterState_node, State.modNode_node_same]

/-- What the checks of NODE_ENABLE let into service (R29). -/
theorem State.enableLegal_iff (s : State) (n : NodeIx) : s.enableLegal n = true ↔
    ((s.node n).outLen.toNat ≤ 8 ∧ (s.node n).inLen.toNat ≤ 8) ∧ s.duplicate n = false := by
  simp only [State.enableLegal, Bool.and_eq_true, decide_eq_true_eq, Bool.not_eq_true']

theorem State.Inv.nodeEnable (h : s.Inv) (n : NodeIx) : (s.nodeEnable n).Inv := by
  unfold State.nodeEnable
  split
  · exact h.refuse
  next hs =>
  rw [not_not] at hs
  split
  swap
  · exact (h.answer .badArg).raise _ _
  next hlegal =>
  obtain ⟨hlen, hdup⟩ := (s.enableLegal_iff n).1 hlegal
  refine State.Inv.probeBoundary ?_ n
  refine (h.answer .ok).only (State.only_enableNode _ n) (State.kept_enableNode _ n) ?_ (fun _ => .inr hdup) ?_
  · rw [State.enableNode_node]
    exact { h.nodes n with
      count := Nat.zero_le _
      wait := Nat.zero_le _
      age := Nat.le_refl _
      online := nofun
      suspect := nofun
      served := fun _ => rfl
      matched := nofun
      lengths := fun _ => hlen
      aged := fun _ => rfl }
  · rintro w hw rfl
    exact (h.work.item w hw).served hs

theorem State.workOf_eq_some {w : WorkItem} : s.workOf n = some w ↔ s.link.work = some w ∧ w.node = n := by
  simp [State.workOf, Option.filter_eq_some_iff]

theorem State.workOf_eq_none (h : s.workOf n = none) (w : WorkItem) (hw : s.link.work = some w) : w.node ≠ n := by
  rintro rfl
  rw [State.workOf_eq_some.2 ⟨hw, rfl⟩] at h
  cases h

theorem State.Inv.pendNodeCmd {w : WorkItem} (h : s.Inv) (hw : s.link.work = some w) (c : NodeCmd) :
    (s.pendNodeCmd c).Inv := by
  refine h.suppressed hw (c := some c) ?_ rfl rfl ?_ (fun _ _ => rfl) fun _ => id
  · simp [hw]
  · exact (h.base_of_work hw).same rfl rfl rfl rfl

theorem State.Inv.nodeDisable (h : s.Inv) (n : NodeIx) : (s.nodeDisable n).Inv := by
  unfold State.nodeDisable
  split
  · exact h.refuse
  next hs =>
  split
  · next w hw => exact h.pendNodeCmd (State.workOf_eq_some.1 hw).1 .disable
  · next hw =>
    refine (h.answer .ok).only (State.only_disableNode _ n) (State.kept_disableNode _ n) ?_ (fun _ => .inl hs)
      (State.workOf_eq_none hw)
    rw [State.disableNode_node]
    exact (h.nodes n).disabled

theorem State.Inv.nodeReprobe (h : s.Inv) (n : NodeIx) : (s.nodeReprobe n).Inv := by
  unfold State.nodeReprobe
  split
  · exact h.refuse
  next hs =>
  split
  · next w hw =>
    split
    · exact h.refuse
    · exact h.pendNodeCmd (State.workOf_eq_some.1 hw).1 .reprobe
  · next hw =>
    refine State.Inv.probeBoundary ?_ n
    refine (h.answer .ok).only (State.only_reprobeNode _ n) (State.kept_reprobeNode _ n) ?_ (fun _ => .inl hs)
      (State.workOf_eq_none hw)
    rw [State.reprobeNode_node]
    exact (Node.InService.reprobed ⟨h.nodes n, hs⟩).1

theorem State.Inv.cmdNode (h : s.Inv) {f : State → NodeIx → State} (hf : ∀ n, (f s n).Inv) : (s.cmdNode f).Inv := by
  unfold State.cmdNode
  split
  · exact hf _
  · exact (h.answer _).raise _ _

/-! ## SCAN_CLEAR -/

theorem Node.Ok.cleared {x : Node} (h : x.Ok) (disabling : Bool) : (x.cleared disabling).Ok := by
  have hdisabled : ({ x with
      matchState := false, reprobe := 0, inputAge := 255, baseline := false, due := false, gapMark := false
      input := Vector.replicate 8 0, state := .disabled } : Node).Ok :=
    h.disabled.congr rfl rfl rfl rfl rfl rfl rfl rfl
  unfold Node.cleared
  dsimp only
  split
  · next hs => exact hdisabled.congr rfl rfl rfl hs rfl rfl rfl rfl
  · next hs =>
    split
    · exact hdisabled
    · exact
        { count := Nat.zero_le _
          wait := Nat.zero_le _
          age := Nat.le_refl _
          online := nofun
          suspect := nofun
          served := fun _ => rfl
          matched := nofun
          lengths := fun _ => h.lengths hs
          aged := fun _ => rfl }

theorem Node.cleared_served {x : Node} {disabling : Bool} (h : (x.cleared disabling).state ≠ .disabled) :
    x.state ≠ .disabled := by
  unfold Node.cleared at h
  dsimp only at h
  split at h
  · exact h
  · next hs => exact hs

theorem Txn.cleared_sound {u : Txn} (h : u.sound = true) : u.cleared.sound = true ∧ u.cleared.state = .free := by
  have hle := Txn.attempts_le h
  unfold Txn.cleared
  split
  · next hs => simp [Txn.sound, hs, hle]
  · simp [Txn.freed, Txn.sound, hle]

theorem State.cmdScanClear_txn (s : State) (e : TxnIx) : s.cmdScanClear.txn e = (s.txn e).cleared := by
  simp [State.cmdScanClear, State.txn, State.abortWork]

theorem State.Inv.cmdScanClear (h : s.Inv) : s.cmdScanClear.Inv := by
  refine State.Base.inv_of_idle ⟨fun n => ?_, ?_, ?_, ?_⟩ rfl nofun
  · rw [State.cmdScanClear_node]
    exact (h.nodes n).cleared _
  · refine h.apart.of_nodes (fun n => ?_) fun n hn => ?_
    · obtain ⟨hseg, haddr, -⟩ := (Node.hostSide_eq_iff _ _).1 ((s.node n).cleared_hostSide (s.disablePending n))
      rw [State.cmdScanClear_node, Node.place, Node.place, hseg, haddr]
    · rw [State.cmdScanClear_node] at hn
      exact Node.cleared_served hn
  · exact
      { latched := Nat.zero_le _
        cursor := Nat.zero_le _
        overruns := Nat.zero_le _
        dropped := Nat.zero_le _
        timer := nofun
        noTimer := fun _ => .inl rfl
        still := fun _ => ⟨rfl, rfl, rfl⟩
        walked := fun hc => hc.elim nofun nofun }
  · refine ⟨List.nodup_nil, fun e => ?_, fun e => ?_, fun e => ?_⟩ <;>
      obtain ⟨hsound, hfree⟩ := Txn.cleared_sound (h.txns.sound e)
    · rw [State.cmdScanClear_txn]
      exact hsound
    · rw [State.cmdScanClear_txn, hfree]
      exact ⟨nofun, nofun⟩
    · rw [State.cmdScanClear_txn, hfree]
      exact ⟨nofun, nofun⟩

/-- A command byte leaves the invariant, whatever its code. -/
theorem State.Inv.command (h : s.Inv) (hlegal : s.registersLegal = true) (b : Byte) : (s.command b).Inv := by
  unfold State.command
  split
  · exact h.cmdStartScan hlegal
  split
  · exact h.cmdStopScan
  split
  · exact h.cmdTriggerCycle hlegal
  split
  · exact h.cmdNode h.nodeEnable
  split
  · exact h.cmdNode h.nodeDisable
  split
  · exact h.cmdNode h.nodeReprobe
  split
  · exact h.same rfl rfl rfl rfl rfl
  split
  · exact h.cmdScanClear
  split <;> exact h.same rfl rfl rfl rfl rfl

end Sys2Proof.Machine
end

section
/-! SUPPORT. The joint invariant across the transaction ports, the register writes, the reads, the commit and the resets, and
so across a step; with the statements about nodes, addresses, the engine, the work item and the Transaction Table. -/

namespace Sys2Proof.Machine

variable {s t : State} {n : NodeIx} {e : TxnIx}

/-! ## The transaction ports -/

theorem State.Inv.raiseHere (h : s.Inv) (c : HostError) : (s.raiseHere c).Inv := h.same rfl rfl rfl rfl rfl

/-- An entry that is neither QUEUED nor ACTIVE, updated so that it still is neither, leaves the invariant. -/
theorem State.Inv.modIdleTxn (h : s.Inv) {f : Txn → Txn} (hq : (s.txn e).state ≠ .queued) (ha : (s.txn e).state ≠ .active)
    (hsound : (f (s.txn e)).sound = true) (hfq : (f (s.txn e)).state ≠ .queued) (hfa : (f (s.txn e)).state ≠ .active) :
    (s.modTxn e f).Inv := by
  have hout : e ∉ s.order := fun he => hq ((h.txns.queued e).1 he)
  exact h.modTxn (l := s.order) h.txns.nodup hsound (fun _ _ => Iff.rfl)
    ⟨fun he => absurd he hout, fun hf => absurd hf hfq⟩ ⟨fun hs => absurd hs ha, fun hf => absurd hf hfa⟩
    fun hc => absurd ((h.txns.active e).1 hc) ha

theorem Txn.freed_sound {u : Txn} (h : u.sound = true) : u.freed.sound = true := by
  simp [Txn.freed, Txn.sound, Txn.attempts_le h]

theorem State.Inv.freeTxn (h : s.Inv) (hq : (s.txn e).state ≠ .queued) (ha : (s.txn e).state ≠ .active) :
    (s.modTxn e Txn.freed).Inv :=
  h.modIdleTxn hq ha (Txn.freed_sound (h.txns.sound e)) nofun nofun

/-- A RESERVED entry has neither result nor attempt nor cancel mark (R133). -/
theorem Txn.reserved_parts {u : Txn} (h : u.sound = true) (hs : u.state = .reserved) :
    u.result = none ∧ u.attempts = 0 ∧ u.cancelMark = false := by
  simp only [Txn.sound, hs, Bool.and_eq_true] at h
  obtain ⟨⟨-, hmark⟩, hresult, hattempts⟩ := h
  exact ⟨Option.isNone_iff_eq_none.1 hresult, beq_iff_eq.1 hattempts, by simpa using hmark⟩

theorem State.Inv.submitEntry (h : s.Inv) (e : TxnIx) : (s.submitEntry e).Inv := by
  unfold State.submitEntry
  dsimp only
  split
  · exact h.raiseHere _
  next hs =>
  rw [not_not] at hs
  split
  swap
  · exact h.raiseHere _
  next hlegal =>
  obtain ⟨hresult, hattempts, hmark⟩ := Txn.reserved_parts (h.txns.sound e) hs
  obtain ⟨hranges, -⟩ := Bool.and_eq_true_iff.1 hlegal
  have hout : e ∉ s.order := fun he => by
    have hq := (h.txns.queued e).1 he
    rw [hs] at hq
    cases hq
  refine State.Inv.idleBoundary (h.modTxn (e := e) (f := fun u => { u with state := .queued }) (l := s.order ++ [e]) ?_ ?_
    (fun k hk => ?_) ?_ ?_ fun hc => ?_)
  · rw [List.nodup_append]
    exact ⟨h.txns.nodup, List.nodup_singleton e, fun a ha b hb => by
      rw [List.mem_singleton] at hb
      rintro rfl
      exact hout (hb ▸ ha)⟩
  · simpa [Txn.sound, hresult, hattempts, hmark, Txn.rangesLegal] using hranges
  · simp [hk]
  · simp
  · rw [hs]
    exact ⟨nofun, nofun⟩
  · rw [(h.txns.active e).1 hc] at hs
    cases hs

theorem State.Inv.cancelEntry (h : s.Inv) (e : TxnIx) : (s.cancelEntry e).Inv := by
  unfold State.cancelEntry
  split
  · exact h.raiseHere _
  · next hs => exact h.freeTxn (by simp [hs]) (by simp [hs])
  · next hs =>
    unfold State.cancelQueued State.emitTxnEnd
    refine State.Inv.emit (h.modTxn (h.txns.nodup.erase e) rfl (fun k hk => List.mem_erase_of_ne hk) ?_ ?_ fun hc => ?_) _ _ _ _
    · exact ⟨fun he => absurd he h.txns.nodup.not_mem_erase, nofun⟩
    · rw [hs]
      exact ⟨nofun, nofun⟩
    · rw [(h.txns.active e).1 hc] at hs
      cases hs
  · next hs =>
    have hcarried := (h.txns.active e).2 hs
    unfold State.suppressTxn
    rw [State.modTxn_link]
    cases hw : s.link.work with
    | none => rw [Link.carried_of_idle hw] at hcarried; cases hcarried
    | some w =>
      rw [Link.carried_of_work hw] at hcarried
      dsimp only
      cases hc : w.cls with
      | txn k =>
        rw [hc, WorkClass.entry, Option.some.injEq] at hcarried
        dsimp only
        rw [if_pos hcarried]
        have hmark : ∀ i, ((s.modTxn e fun u => { u with cancelMark := true }).txn i).linkSide = (s.txn i).linkSide := by
          intro i
          rw [State.modTxn_txn]
          split
          · next hi => rw [hi]; rfl
          · rfl
        refine h.suppressed hw (c := w.nodeCmd) ?_ rfl rfl ?_ (fun _ _ => hmark _) fun _ => id
        · simp [State.suppress, hw]
        · have hb := h.base_of_work hw
          refine State.Base.same (s := s.modTxn e fun u => { u with cancelMark := true }) ?_ rfl rfl rfl rfl
          refine ⟨hb.nodes, hb.apart, hb.engine, hb.txns.modTxn (l := s.order) hb.txns.nodup ?_ (fun _ _ => Iff.rfl)
            (hb.txns.queued e) (fun _ _ => Iff.rfl) (hb.txns.active e)⟩
          have hsound := hb.txns.sound e
          unfold Txn.sound at hsound ⊢
          simp only [hs, Bool.and_eq_true] at hsound ⊢
          exact ⟨⟨hsound.1.1, rfl⟩, hsound.2⟩
      | _ => rw [hc] at hcarried; cases hcarried
  · exact h.raiseHere _
  · exact h.raiseHere _
  · exact h.raiseHere _

theorem State.Inv.releaseEntry (h : s.Inv) (e : TxnIx) : (s.releaseEntry e).Inv := by
  unfold State.releaseEntry
  split
  · exact h.raiseHere _
  · exact h.raiseHere _
  · exact h.raiseHere _
  · exact h.raiseHere _
  · next hs => exact h.freeTxn (by simp [hs]) (by simp [hs])
  · next hs => exact h.freeTxn (by simp [hs]) (by simp [hs])
  · next hs => exact h.freeTxn (by simp [hs]) (by simp [hs])

theorem State.Inv.withHandle (h : s.Inv) {f : State → TxnIx → State} (hf : ∀ e, (f s e).Inv) (b : Byte) :
    (s.withHandle b f).Inv := by
  unfold State.withHandle
  split
  · exact hf _
  · exact h.raiseHere _

theorem State.Inv.allocate (h : s.Inv) : s.allocate.2.Inv := by
  unfold State.allocate
  split
  · next e he =>
    have hfree : (s.txn e).state = .free := 
      beq_iff_eq.1 (List.find?_some (p := fun e => (s.txn e).state == .free) he)
    refine h.modIdleTxn (by simp [hfree]) (by simp [hfree]) ?_ nofun nofun
    have hsound := h.txns.sound e
    simp only [Txn.sound, hfree, Bool.and_eq_true] at hsound
    simpa [Txn.allocated, Txn.sound] using hsound.1.2
  · exact h

/-! ## Register writes -/

theorem State.Inv.writeChecked (h : s.Inv) {legal : Bool} (ht : t.Inv) : (s.writeChecked legal t).Inv := by
  unfold State.writeChecked
  split
  · exact ht
  · exact h.raiseHere _

/-- A register of the engine that its invariant does not mention. -/
theorem State.Inv.setRegister (h : s.Inv) {f : Engine → Engine} (hok : ∀ g k, g.Ok k → (f g).Ok k)
    (hstate : ∀ g, (f g).state = g.state) : (s.modEngine f).Inv := by
  refine h.modEngine (hok _ _ h.engine) ?_ ?_
  · rw [hstate]
    exact id
  · rw [hstate]
    exact fun _ => id

theorem Node.set_linkSide {x : Node} {f : NodeField} (hf : f.static = false) (b : Byte) :
    (x.set f b).linkSide = x.linkSide ∧ (x.set f b).place = x.place := by
  cases f <;> first | exact ⟨rfl, rfl⟩ | cases hf

theorem Node.set_state (x : Node) (f : NodeField) (b : Byte) : (x.set f b).state = x.state := by
  cases f <;> rfl

theorem Node.Ok.set {x : Node} (h : x.Ok) (f : NodeField) (b : Byte) (hf : f.static = true → x.state = .disabled) :
    (x.set f b).Ok := by
  cases f with
  | outLen => exact { h with lengths := fun hs => absurd (hf rfl) hs }
  | inLen => exact { h with lengths := fun hs => absurd (hf rfl) hs }
  | options =>
    refine { h with matched := fun hm => ?_ }
    obtain ⟨hbit, hmatch⟩ := Bool.and_eq_true_iff.1 hm
    exact ⟨(h.matched hmatch).1, hbit⟩
  | _ => exact h.congr rfl rfl rfl rfl rfl rfl rfl rfl

theorem State.Inv.writeNodeConfig (h : s.Inv) (n : NodeIx) (f : NodeField) (b : Byte) : (s.writeNodeConfig n f b).Inv := by
  unfold State.writeNodeConfig
  split
  · exact h.raiseHere _
  next hlock =>
  rw [not_and, not_not] at hlock
  split
  swap
  · exact h.raiseHere _
  have hok : ∀ m, ((s.modNode n fun x => x.set f b).node m).Ok := fun m => by
    rw [State.modNode_node]
    split
    · exact (h.nodes n).set f b hlock
    · exact h.nodes m
  cases hf : f.static with
  | false =>
    refine h.tendNodes rfl rfl rfl rfl hok fun m => ?_
    rw [State.modNode_node]
    split
    · next hm => rw [hm]; exact (Node.set_linkSide hf b).1
    · rfl
  | true =>
    have hdisabled := hlock hf
    have hstate : ∀ m, ((s.modNode n fun x => x.set f b).node m).state = (s.node m).state := fun m => by
      rw [State.modNode_node]
      split
      · next hm => rw [hm, Node.set_state]
      · rfl
    have hother : ∀ m, (s.node m).state ≠ .disabled → (s.modNode n fun x => x.set f b).node m = s.node m := fun m hm => by
      rw [State.modNode_node, if_neg]
      rintro rfl
      exact hm hdisabled
    refine h.setNodes rfl rfl rfl rfl hok (fun m k hkm hm hk => ?_) fun w hw => ?_
    · rw [hstate] at hm hk
      rw [hother m hm, hother k hk]
      exact h.apart m k hkm hm hk
    · rw [hother _ (h.work.item w hw).served]

theorem State.Inv.writeProfile (h : s.Inv) (p : ProfileIx) (f : ProfileField) (b : Byte) : (s.writeProfile p f b).Inv := by
  unfold State.writeProfile
  split
  · exact h.raiseHere _
  next hlock =>
  split
  swap
  · exact h.raiseHere _
  rw [not_or] at hlock
  have hwork : s.link.work = none := by simpa [Link.idle] using hlock.2
  exact State.Base.inv_of_idle ((h.base_of_idle hwork).same rfl rfl rfl rfl) hwork (h.work.idle hwork)

theorem State.Inv.writeSource (h : s.Inv) (b : Byte) : (s.writeSource b).Inv := by
  unfold State.writeSource
  split
  · exact h.raiseHere _
  next hs =>
  rw [not_not] at hs
  split
  · refine h.modEngine { h.engine with
        timer := fun k hk => absurd hs (h.engine.timer k hk).2.2
        noTimer := fun _ => .inl hs } id fun _ => id
  · exact h.raiseHere _

theorem State.Inv.writeSlot (h : s.Inv) (k : SlotIx) (second : Bool) (b : Byte) : (s.writeSlot k second b).Inv := by
  rw [State.writeSlot_eq]
  split
  · have hset : (s.setSlot k (s.slots[k].put second b)).Inv := h.same rfl rfl rfl rfl rfl
    dsimp only
    split
    · exact hset.idleBoundary
    · exact hset
  · exact h.raiseHere _

theorem Txn.set_reserved_sound {u : Txn} (h : u.sound = true) (hs : u.state = .reserved) (f : TxnField) (b : Byte) :
    (u.set f b).sound = true ∧ (u.set f b).state = .reserved := by
  unfold Txn.sound at h
  simp only [hs] at h
  refine ⟨?_, by cases f <;> exact hs⟩
  cases f <;> (simp only [Txn.set, Txn.sound, hs]; exact h)

theorem State.Inv.writeTxn (h : s.Inv) (e : TxnIx) (f : TxnField) (b : Byte) : (s.writeTxn e f b).Inv := by
  unfold State.writeTxn
  split
  · exact h.raiseHere _
  split
  · next hs =>
    obtain ⟨hsound, hstate⟩ := Txn.set_reserved_sound (h.txns.sound e) hs f b
    exact h.modIdleTxn (by simp [hs]) (by simp [hs]) hsound (by simp [hstate]) (by simp [hstate])
  · exact h.raiseHere _

/-- A mask byte of a node leaves the invariant. -/
theorem State.Inv.setMasks (h : s.Inv) (n : NodeIx) {f : Node → Node} (hok : ∀ x, x.Ok → (f x).Ok)
    (hside : ∀ x, (f x).linkSide = x.linkSide) : (s.modNode n f).Inv := by
  refine h.tendNodes rfl rfl rfl rfl (fun m => ?_) fun m => ?_ <;> rw [State.modNode_node] <;> split
  · exact hok _ (h.nodes n)
  · exact h.nodes m
  · next hm => rw [hm, hside]
  · rfl

/-- A data byte leaves the invariant, whatever register it is written to. -/
theorem State.Inv.writeReg (h : s.Inv) (hlegal : s.registersLegal = true) (r : Reg) (b : Byte) : (s.writeReg r b).Inv := by
  have hengine : ∀ {f : Engine → Engine}, (∀ g k, g.Ok k → (f g).Ok k) → (∀ g, (f g).state = g.state) →
      (s.modEngine f).Inv := fun hok hstate => h.setRegister hok hstate
  cases r with
  | cmd => exact h.command hlegal b
  | startSource => exact h.writeSource b
  | syncEdge =>
    show (s.writeSyncEdge b).Inv
    unfold State.writeSyncEdge
    split
    · exact h.raiseHere _
    split
    · exact hengine (fun _ _ ho => { ho with }) fun _ => rfl
    · exact h.raiseHere _
  | linkMode =>
    show (s.writeLinkMode b).Inv
    unfold State.writeLinkMode
    split
    · exact hengine (fun _ _ ho => { ho with }) fun _ => rfl
    · exact h.raiseHere _
  | periodHigh => exact hengine (f := fun g => { g with pendingHigh := some b }) (fun _ _ ho => { ho with }) fun _ => rfl
  | periodLow =>
    show (s.writePeriodLow b).Inv
    have hdropped : (s.modEngine fun g => { g with pendingHigh := none }).Inv :=
      hengine (fun _ _ ho => { ho with }) fun _ => rfl
    unfold State.writePeriodLow
    dsimp only
    split
    · exact hdropped.raiseHere _
    · exact hdropped.setRegister (fun _ _ ho => { ho with }) fun _ => rfl
  | schedLen => exact h.writeChecked (hengine (fun _ _ ho => { ho with }) fun _ => rfl)
  | retryLimit => exact h.writeChecked (hengine (fun _ _ ho => { ho with }) fun _ => rfl)
  | offlineThreshold => exact h.writeChecked (hengine (fun _ _ ho => { ho with }) fun _ => rfl)
  | reprobeInterval => exact h.writeChecked (hengine (fun _ _ ho => { ho with }) fun _ => rfl)
  | evqPolicy =>
    show (s.writePolicy b).Inv
    unfold State.writePolicy
    repeat' split
    all_goals exact h.same rfl rfl rfl rfl rfl
  | attnLevel => exact h.writeChecked (h.same rfl rfl rfl rfl rfl)
  | attnMask => exact h.writeChecked (h.same rfl rfl rfl rfl rfl)
  | txnSubmit => exact h.withHandle h.submitEntry b
  | txnCancel => exact h.withHandle h.cancelEntry b
  | txnRelease => exact h.withHandle h.releaseEntry b
  | profile p f => exact h.writeProfile p f b
  | nodeConfig n f => exact h.writeNodeConfig n f b
  | slot k second => exact h.writeSlot k second b
  | rise n i =>
    exact h.setMasks n (f := fun x => { x with rise := x.rise.set i b })
      (fun _ hx => hx.congr rfl rfl rfl rfl rfl rfl rfl rfl) fun _ => rfl
  | fall n i =>
    exact h.setMasks n (f := fun x => { x with fall := x.fall.set i b })
      (fun _ hx => hx.congr rfl rfl rfl rfl rfl rfl rfl rfl) fun _ => rfl
  | txn e f => exact h.writeTxn e f b
  | _ => exact h.same rfl rfl rfl rfl rfl

/-! ## Reads, commit and resets -/

theorem State.Inv.readEffect (h : s.Inv) (r : Reg) : (s.readEffect r).Inv := by
  unfold State.readEffect
  split
  case h_8 => exact h.allocate
  all_goals exact h.same rfl rfl rfl rfl rfl

theorem State.Inv.modPort (h : s.Inv) (f : Port → Port) : (s.modPort f).Inv := h.same rfl rfl rfl rfl rfl

theorem State.Inv.commitStaging (h : s.Inv) : s.commitStaging.Inv := by
  have hnode : ∀ n, ({ s with
      nodes := tabulate 16 fun n => (s.node n).commit (committed s.port.staging n (s.node n).output)
      port := { s.port with staging := [] } } : State).node n =
      (s.node n).commit (committed s.port.staging n (s.node n).output) := fun n => by simp [State.node]
  have hcommitted : ({ s with
      nodes := tabulate 16 fun n => (s.node n).commit (committed s.port.staging n (s.node n).output)
      port := { s.port with staging := [] } } : State).Inv :=
    h.tendNodes rfl rfl rfl rfl
      (fun n => by rw [hnode]; exact (h.nodes n).congr rfl rfl rfl rfl rfl rfl rfl rfl) fun n => by rw [hnode]; rfl
  unfold State.commitStaging
  dsimp only
  split
  · exact hcommitted.idleBoundary
  · exact hcommitted

theorem State.inv_atReset (power : Power) (pins : AdrPins) (l : List Instr) : (State.atReset power pins l).Inv := by
  have hnode : ∀ n, (State.atReset power pins l).node n = Node.reset := fun n => by simp [State.node, State.atReset]
  have htxn : ∀ e, (State.atReset power pins l).txn e = Txn.reset := fun e => by simp [State.txn, State.atReset]
  refine State.Base.inv_of_idle ⟨fun n => ?_, fun n m _ hn => ?_, ?_, ?_⟩ rfl nofun
  · rw [hnode]
    exact (Node.sound_iff _).1 (by decide)
  · rw [hnode] at hn
    exact absurd rfl hn
  · exact
      { latched := Nat.zero_le _
        cursor := Nat.zero_le _
        overruns := Nat.zero_le _
        dropped := Nat.zero_le _
        timer := nofun
        noTimer := fun _ => .inl rfl
        still := fun _ => ⟨rfl, rfl, rfl⟩
        walked := fun hc => hc.elim nofun nofun }
  · refine ⟨List.nodup_nil, fun e => ?_, fun e => ?_, fun e => ?_⟩ <;> rw [htxn]
    · rfl
    · exact ⟨nofun, nofun⟩
    · exact ⟨nofun, nofun⟩

theorem State.Inv.endTransfer (h : s.Inv) : s.endTransfer.Inv := by
  unfold State.endTransfer
  split
  · exact h
  split
  · split
    · exact State.inv_atReset _ _ _
    · exact h.commitStaging.modPort _
  · exact h.same rfl rfl rfl rfl rfl

/-! ## A step -/

/-- The registers are legal and the blocks agree. -/
def State.Agrees (s : State) : Prop := s.registersLegal = true ∧ s.Inv

theorem stepKeeps_agrees : StepKeeps State.Agrees where
  supplyByte s hs hp := ⟨stepKeeps_registersLegal.supplyByte s hs.1 hp, (hs.2.readEffect _).same rfl rfl rfl rfl rfl⟩
  handOverRetry s hs := ⟨stepKeeps_registersLegal.handOverRetry s hs.1, hs.2.handOverRetry⟩
  takeAddress s b hs := by
    refine ⟨stepKeeps_registersLegal.takeAddress s b hs.1, ?_⟩
    unfold State.takeAddress
    dsimp only
    split <;> exact hs.2.endTransfer.modPort _
  receiveByte s b hs := by
    refine ⟨stepKeeps_registersLegal.receiveByte s b hs.1, ?_⟩
    unfold State.receiveByte
    split
    · exact hs.2.modPort _
    · exact hs.2.modPort _
    · exact (hs.2.writeReg hs.1 _ b).modPort _
    · exact hs.2
    · exact hs.2
    · exact hs.2
  endTransfer s hs := ⟨stepKeeps_registersLegal.endTransfer s hs.1, hs.2.endTransfer⟩
  abortTransfer s hs := by
    refine ⟨stepKeeps_registersLegal.abortTransfer s hs.1, ?_⟩
    unfold State.abortTransfer
    split
    · exact hs.2
    split
    · exact State.inv_atReset _ _ _
    · exact hs.2.same rfl rfl rfl rfl rfl
  notAcknowledge s hs hd := by
    refine ⟨stepKeeps_registersLegal.notAcknowledge s hs.1 hd, ?_⟩
    unfold State.notAcknowledge
    split
    · exact hs.2.modPort _
    · exact hs.2
  deviceReset s c hs := ⟨stepKeeps_registersLegal.deviceReset s c hs.1, State.inv_atReset _ _ _⟩
  endDeviceReset s straps hs := by
    refine ⟨stepKeeps_registersLegal.endDeviceReset s straps hs.1, ?_⟩
    unfold State.endDeviceReset
    split
    · exact hs.2.same rfl rfl rfl rfl rfl
    · exact hs.2
  endInit s hs := by
    refine ⟨stepKeeps_registersLegal.endInit s hs.1, ?_⟩
    unfold State.endInit
    split
    · exact hs.2.same rfl rfl rfl rfl rfl
    · exact hs.2
  timerExpiry s hs := ⟨stepKeeps_registersLegal.timerExpiry s hs.1, hs.2.timerExpiry hs.1⟩
  syncEdge s e hs := ⟨stepKeeps_registersLegal.syncEdge s e hs.1, hs.2.syncEdge hs.1 e⟩
  assertSelect s hs := ⟨stepKeeps_registersLegal.assertSelect s hs.1, hs.2.assertSelect⟩
  completion s d o hs := ⟨stepKeeps_registersLegal.completion s d o hs.1, hs.2.completion hs.1 d o⟩
  reachDelay s hs := ⟨stepKeeps_registersLegal.reachDelay s hs.1, hs.2.same rfl rfl rfl rfl rfl⟩
  tickEvq s hs := ⟨stepKeeps_registersLegal.tickEvq s hs.1, hs.2.same rfl rfl rfl rfl rfl⟩
  rest s hs := ⟨stepKeeps_registersLegal.rest s hs.1, hs.2.rest⟩
  countDown s k hs hk h1 := by
    refine ⟨stepKeeps_registersLegal.countDown s k hs.1 hk h1, hs.2.modEngine ?_ id fun _ => id⟩
    obtain ⟨-, hsource, hrun⟩ := hs.2.engine.timer k hk
    exact { hs.2.engine with
      timer := fun i hi => by
        cases hi
        exact ⟨Nat.le_sub_one_of_lt h1, hsource, hrun⟩
      noTimer := nofun }
  countInit s why k hs hk h1 :=
    ⟨stepKeeps_registersLegal.countInit s why k hs.1 hk h1, hs.2.same rfl rfl rfl rfl rfl⟩

/-- From a sound state every step leads to a state in which the blocks agree. -/
theorem State.inv_of_step (hs : s.sound = true) (ht : step s = .next t) : t.Inv := by
  have hnext : t.Agrees := stepKeeps_agrees.step (fun u l h => ⟨h.1, h.2.same rfl rfl rfl rfl rfl⟩) (State.inv_of_sound hs) ht
  exact hnext.2

/-- Settles O9: the nodes' part of the joint invariant of every step. -/
theorem nodesStaySound : Obligations.NodesStaySound := fun _ _ hs ht =>
  (State.nodesSound_iff _).2 (State.inv_of_step hs ht).nodes

/-- Settles O10: the places' part of the joint invariant; only NODE_ENABLE takes a node into service, and its checks keep the
places apart. -/
theorem addressesStayDistinct : Obligations.AddressesStayDistinct := fun _ _ hs ht =>
  (State.addressesDistinct_iff _).2 (State.inv_of_step hs ht).apart

/-- Settles O11: the engine's part of the joint invariant of every step. -/
theorem engineStaysSound : Obligations.EngineStaysSound := fun _ _ hs ht =>
  (State.engineSound_iff _).2 (State.inv_of_step hs ht).engine

/-- Settles O12: the work item's part of the joint invariant of every step. -/
theorem workItemStaysSound : Obligations.WorkItemStaysSound := fun _ _ hs ht =>
  (State.workSound_iff _).2 (State.inv_of_step hs ht).work

/-- Settles O13: the Transaction Table's part of the joint invariant of every step. -/
theorem transactionsStaySound : Obligations.TransactionsStaySound := fun _ _ hs ht =>
  (State.txnsSound_iff _).2 (State.inv_of_step hs ht).txns

end Sys2Proof.Machine
end

section
/-! SUPPORT. A step and its clocks, the resets, and the statements about them; with the capture of host errors. -/

namespace Sys2Proof.Machine

variable {s t : State}

/-! ## The front of the queue and the clocks -/

/-- Settles O1: it is the step's own case for a queue that holds a command. -/
theorem stepTakesFrontCommand : Obligations.StepTakesFrontCommand := by
  intro c rest s h
  unfold step
  rw [h]

/-- No retry waits for its hand-over where the work item in progress, if there is one, has its attempt in flight. -/
theorem State.calm_iff : s.calm ↔ ∀ w l, s.link.work = some w → w.phase ≠ .retryPending l := by
  unfold State.calm Link.retryWaits
  cases s.link.work with
  | none => simp
  | some w =>
    dsimp only
    cases hp : w.phase with
    | inFlight x =>
      refine iff_of_true rfl fun v l hv hl => ?_
      rw [← Option.some.inj hv, hp] at hl
      cases hl
    | retryPending r => exact iff_of_false nofun fun h => h w r rfl hp

theorem State.calm_of_link (h : s.calm) (hl : t.link = s.link) : t.calm := by
  unfold State.calm
  rw [hl]
  exact h

/-- A command taken with no byte due and no retry waiting, before or after its effect (R18, R173). -/
theorem State.moment_next {f : State → State} (hd : s.port.readDue = false) (hc : (f s).calm) :
    State.moment f s = f s := State.moment_calm hd hc

theorem Evq.tick_eq (q : Evq) : q.tick =
    if q.records = [] then q
    else if q.headSub + 1 < 100 then { q with headSub := q.headSub + 1 }
    else { q with headSub := 0, headAge := if q.headAge < 255 then q.headAge + 1 else q.headAge } := by
  unfold Evq.tick succUpTo
  simp only [List.isEmpty_iff]
  rfl

/-- The work item with its select line low, if an attempt is in flight (R2). -/
def WorkItem.lowered (w : WorkItem) : WorkItem :=
  match w.phase with
  | .inFlight x => { w with phase := .inFlight { x with selected := true } }
  | .retryPending _ => w

/-- The rest after the last release over and a select line that waited for it low (R2). -/
theorem State.tickLink_eq (s : State) : s.tickLink =
    { s with link := { s.link with rested := true, work := s.link.work.map WorkItem.lowered } } := by
  unfold State.tickLink State.assertSelect
  simp only [State.modLink_link]
  cases hw : s.link.work with
  | none => simp [State.modLink, hw]
  | some w => cases hp : w.phase <;> simp [State.modLink, WorkItem.lowered, hw, hp]

/-- The part after 10 µs but for its cycle timer and its initialization period (R2, R166). -/
def State.ticked (s : State) : State :=
  { s with evq := s.evq.tick, link := { s.link with rested := true, work := s.link.work.map WorkItem.lowered } }

theorem State.ticked_calm (h : s.calm) : s.ticked.calm := by
  unfold State.calm Link.retryWaits State.ticked at *
  cases hw : s.link.work with
  | none => simp
  | some w => cases hp : w.phase <;> simp_all [WorkItem.lowered]

/-- A step on an empty queue, with nothing due and no retry waiting, is the clocks' (R2, R69, R166, R180). -/
theorem step_idle (hq : s.pending = []) (hd : s.port.readDue = false) (hc : s.calm) :
    step s = .next s.ticked.tickTimer.tickInit := by
  unfold step
  rw [hq]
  dsimp only
  rw [State.idleTick, State.takeDueRead_none hd, State.handOverRetry_calm hc, State.tickLink_eq]
  rfl

theorem State.timerExpiry_power (s : State) : s.timerExpiry.power = s.power := by
  unfold State.timerExpiry
  split
  · exact (State.kept_cycleStart _).power
  · rfl

theorem State.timerExpiry_calm (h : s.calm) : s.timerExpiry.calm := by
  unfold State.timerExpiry
  split
  · exact State.calm_cycleStart (s := s.modEngine Engine.loadTimer) h
  · exact h

theorem State.endInit_calm (h : s.calm) : s.endInit.calm := by
  unfold State.endInit
  split <;> exact h

/-- The initialization period stands still outside of it. -/
theorem State.tickInit_other (h : ∀ why k, s.power ≠ .initializing why k) : s.tickInit = s := by
  unfold State.tickInit
  split
  · next why k hk => exact absurd hk (h why k)
  · rfl

theorem State.tickInit_initializing {why : ResetReason} {k : Nat} (h : s.power = .initializing why k) :
    s.tickInit = if 1 < k then { s with power := .initializing why (k - 1) } else s.endInit := by
  rw [State.tickInit, h]

theorem State.tickTimer_stopped (h : s.engine.timer = none) : s.tickTimer = s := by
  rw [State.tickTimer, h]

theorem State.tickTimer_running {k : Nat} (h : s.engine.timer = some k) :
    s.tickTimer = if 1 < k then s.modEngine fun g => { g with timer := some (k - 1) } else s.timerExpiry := by
  rw [State.tickTimer, h]

/-- Settles O3: the step is the clocks', each of which has one case of the power phase and the timer to itself. -/
theorem idleStepIsClockTick : Obligations.IdleStepIsClockTick := by
  intro s hq hd hretry q aged lowered ticked
  have hcalm : s.calm := State.calm_iff.2 hretry
  have hticked : s.ticked = ticked := by
    unfold State.ticked
    rw [Evq.tick_eq]
    rfl
  have hstep := step_idle hq hd hcalm
  have hready : ticked.calm := hticked ▸ State.ticked_calm hcalm
  rw [hticked] at hstep
  have hexec : ∀ f : State → State, (f ticked).calm → State.moment f ticked = f ticked := fun f hf =>
    State.moment_next hd hf
  refine ⟨fun hp ht => ?_, fun k hp ht hk => ?_, fun k hp ht hk => ?_, fun why k hp ht => ⟨fun hk => ?_, fun hk => ?_⟩,
    fun why hp ht => ?_⟩
  · rw [hstep, State.tickTimer_stopped (s := ticked) ht, State.tickInit_other (by simp [ticked, hp])]
  · rw [hstep, State.tickTimer_running (s := ticked) ht, if_pos hk, State.tickInit_other (by simp [ticked, hp])]
    rfl
  · have hpower : ticked.timerExpiry.power = .running := (State.timerExpiry_power ticked).trans hp
    rw [hstep, State.tickTimer_running (s := ticked) ht, if_neg (Nat.not_lt.2 hk), State.tickInit_other (by simp [hpower])]
    exact congrArg Host.Outcome.next (hexec _ (State.timerExpiry_calm hready)).symm
  · rw [hstep, State.tickTimer_stopped (s := ticked) ht, State.tickInit_initializing (s := ticked) hp, if_pos hk]
  · rw [hstep, State.tickTimer_stopped (s := ticked) ht, State.tickInit_initializing (s := ticked) hp, if_neg (Nat.not_lt.2 hk)]
    exact congrArg Host.Outcome.next (hexec _ (State.endInit_calm hready)).symm
  · rw [hstep, State.tickTimer_stopped (s := ticked) ht, State.tickInit_other (by simp [ticked, hp])]

/-! ## Reset -/

/-- Settles O4: the reset state is closed data. -/
theorem resetStateSound : Obligations.ResetStateSound := by
  unfold Obligations.ResetStateSound
  decide

/-- Settles O34: the reset state and the register map are closed data, read at each address of the areas named. -/
theorem resetRegisterValues : Obligations.ResetRegisterValues := by
  refine ⟨by decide, by decide, by decide, ?_, ?_⟩
  · decide +kernel
  · decide +kernel

/-- The due read and the hand-over of a retry concern neither the power phase nor what a reset keeps. -/
theorem State.takeDueRead_kept (s : State) : s.takeDueRead.power = s.power ∧ s.takeDueRead.adrPins = s.adrPins ∧
    s.takeDueRead.pending = s.pending := by
  unfold State.takeDueRead
  split
  · exact s.readEffect_kept _
  · exact ⟨rfl, rfl, rfl⟩

theorem State.calm_atReset (power : Power) (pins : AdrPins) (l : List Instr) : (State.atReset power pins l).calm := rfl

theorem resetReason_iff (p : Power) (c : ResetCause) :
    (resetReason p c = .powerOn ↔ c = .powerOn ∨ p = .held .powerOn) ∧ resetReason p c ≠ .softReset := by
  cases c with
  | powerOn => exact ⟨by simp [resetReason], by simp [resetReason]⟩
  | resetPin =>
    unfold resetReason
    split
    · next h => cases h
    · simp
    · next h => simpa using h

/-- A part held at its reset values outside of running is the reset state of its power phase. -/
theorem State.eq_atReset (h : s.heldAtReset = true) (hp : s.power ≠ .running) :
    s = State.atReset s.power s.adrPins s.pending := (s.heldAtReset_iff.1 h).resolve_left hp

/-- Settles O32: a reset leaves closed data but for the strap pins and the waiting commands, and each later stage begins from
it. -/
theorem deviceResetSequence : Obligations.DeviceResetSequence := by
  refine ⟨fun s cause => ⟨resetReason s.power cause, ?_, resetReason_iff _ _⟩, fun power pins pending => ⟨rfl, rfl, fun k => rfl⟩,
    fun s why straps hp hreset => ?_, fun s why ticks hp hreset => ?_⟩
  · obtain ⟨hpower, hpins, hpending⟩ := s.takeDueRead_kept
    show Host.Outcome.next (s.takeDueRead.deviceReset cause).handOverRetry = _
    rw [State.deviceReset, hpower, hpins, hpending, State.handOverRetry_calm (State.calm_atReset _ _ _)]
  · have heq := State.eq_atReset hreset (by simp [hp])
    rw [hp] at heq
    rw [heq]
    rfl
  · have heq := State.eq_atReset hreset (by simp [hp])
    rw [hp] at heq
    refine ⟨{ State.atReset .running s.adrPins s.pending with
      evq := { Evq.reset with records := [Record.ofReset why] } }, ?_, rfl, ?_, ?_⟩
    · rw [heq]
      rfl
    · cases why <;> rfl
    · simp [State.attnLow, State.evqReady, State.atReset, Attn.reset]

/-! ## The soft reset -/

/-- The code of SOFT_RESET, told from the eight codes judged before it, answers OK and marks the transfer (R179). -/
theorem State.command_softReset (s : State) : s.command Config.codeSoftReset = s.cmdSoftReset := by
  unfold State.command
  iterate 8 rw [if_neg (by decide)]
  rw [if_pos rfl]

/-- Settles O33: the mark is the command's whole effect; at the end of the transfer, either way, it comes before the commit. -/
theorem softResetActsAtTransferEnd : Obligations.SoftResetActsAtTransferEnd := by
  refine ⟨fun s hw => ?_, fun c s hc hd hp hm => ?_⟩
  · rw [exec_command (b := Config.codeSoftReset) rfl hw, State.command_softReset]
    rfl
  · have hwriting : s.port.phase.writing = true := by rw [hp]; rfl
    obtain rfl | rfl := hc
    · have hend : s.endTransfer = s.softResetAct := by
        rw [State.endTransfer, if_neg (by simp [hp]), if_pos hwriting, if_pos hm]
      show Host.Outcome.next (State.moment State.endTransfer s) = _
      rw [State.moment_next hd (by rw [hend]; exact State.calm_atReset _ _ _), hend]
      rfl
    · have habort : s.abortTransfer = s.softResetAct := by
        rw [State.abortTransfer, if_neg (by simp [hp]), if_pos ⟨hwriting, hm⟩]
      show Host.Outcome.next (State.moment State.abortTransfer s) = _
      rw [State.moment_next hd (by rw [habort]; exact State.calm_atReset _ _ _), habort]
      rfl

/-! ## Host errors -/

/-- A byte that reaches a register at an address in the data phase is written there and acknowledged (R172, R174). -/
theorem exec_writing_at {c : Instr} {b : Byte} {a : Addr} {r : Reg} (hc : c.sentByte = some b) (hr : regAt a = r)
    (h : s.writingAt a) : exec c s = .next (State.handOverRetry ((s.writeReg r b).modPort Port.tookByte)) := by
  rw [exec_writing hc h, hr]
  rfl

/-- Settles O36: the two cases of the capture, and its clearing by a byte at its address. -/
theorem hostErrorCapture : Obligations.HostErrorCapture := by
  refine ⟨fun c e a h => ?_, fun c e a h => ?_, fun s b hw => ?_⟩
  · rw [ErrCapture.take, h, if_neg (by simp)]
  · rw [ErrCapture.take, if_pos h]
  · rw [exec_writing_at (c := .hostErrClear b) rfl (show regAt 0x034 = .errClear by decide) hw]
    rfl

end Sys2Proof.Machine
end

section
/-! SUPPORT. What the registers read as: the bytes of a 16-bit count, a read that only moves the port on, the captures and the
snapshot; with the statements about reads. -/

namespace Sys2Proof.Machine

variable {s t : State}

/-! ## The two bytes of a count -/

theorem hiByte_eq (h : Half) : hiByte h = BitVec.ofNat 8 (h.toNat / 256) := by
  apply BitVec.eq_of_toNat_eq
  simp [hiByte, Nat.shiftRight_eq_div_pow]

theorem loByte_eq (h : Half) : loByte h = BitVec.ofNat 8 (h.toNat % 256) := by
  apply BitVec.eq_of_toNat_eq
  simp [loByte]

theorem joinBytes_toNat (hi lo : Byte) : (joinBytes hi lo).toNat = 256 * hi.toNat + lo.toNat := by
  have hor : hi.toNat <<< 8 ||| lo.toNat = 256 * hi.toNat + lo.toNat := by
    rw [← Nat.shiftLeft_add_eq_or_of_lt lo.isLt, Nat.shiftLeft_eq, Nat.mul_comm]
  rw [joinBytes, BitVec.toNat_append, hor]

/-! ## A read at an address -/

/-- A read at an address gives the byte of the register there and takes its read effect (R173). -/
theorem exec_reading_at {c : Instr} {a : Addr} {r : Reg} (hc : c.asksByte = true) (hr : regAt a = r) (h : s.readingAt a) :
    exec c s = .next (State.handOverRetry ((s.readEffect r).modPort fun p =>
      { p with pointer := nextPointer p.pointer, readDue := false, sdaByte := some (s.readReg r) })) := by
  rw [exec_reading hc h, hr]

/-- A read of a register without a read effect only moves the port on. -/
theorem exec_reading_plain {c : Instr} {a : Addr} {r : Reg} {b : Byte} (hc : c.asksByte = true) (hr : regAt a = r)
    (heffect : s.readEffect r = s) (hb : s.readReg r = b) (h : s.readingAt a) :
    exec c s = .next (State.handOverRetry { s with port := s.port.gaveByte b }) := by
  rw [exec_reading_at hc hr h, heffect, hb]
  rfl

/-! ## The output window -/

theorem State.HostSideKept.output (h : s.HostSideKept t) (n : NodeIx) : (t.node n).output = (s.node n).output := by
  obtain ⟨-, -, -, -, -, -, -, -, -, -, -, houtput, -⟩ := (Node.hostSide_eq_iff _ _).1 (h.node n)
  exact houtput

/-- A read leaves the node table and the phase of the port. -/
theorem State.takeDueRead_nodes (s : State) : s.takeDueRead.nodes = s.nodes ∧ s.takeDueRead.port.phase = s.port.phase := by
  unfold State.takeDueRead
  split
  · refine ⟨?_, (s.readEffect_port _).1⟩
    show (s.readEffect _).nodes = s.nodes
    unfold State.readEffect
    split <;> try rfl
    unfold State.allocate
    split <;> rfl
  · exact ⟨rfl, rfl⟩

theorem State.requestByte_nodes (s : State) : s.requestByte.nodes = s.nodes := by
  unfold State.requestByte
  split
  · show (s.readEffect _).nodes = s.nodes
    unfold State.readEffect
    split <;> try rfl
    unfold State.allocate
    split <;> rfl
  · rfl

/-- The phases of a read transfer (R172). -/
def PortPhase.reading (p : PortPhase) : Prop := p = .readData ∨ p = .readDone

theorem PortPhase.reading.not_writing {p : PortPhase} (h : p.reading) : ¬ p.writing = true ∧ p ≠ .idle := by
  obtain rfl | rfl := h <;> exact ⟨nofun, nofun⟩

/-- The end of a read transfer leaves the node table. -/
theorem State.endTransfer_nodes (h : s.port.phase.reading) : s.endTransfer.nodes = s.nodes := by
  rw [State.endTransfer, if_neg h.not_writing.2, if_neg h.not_writing.1]
  rfl

theorem State.receiveByte_reading (h : s.port.phase.reading) (b : Byte) : s.receiveByte b = s := by
  unfold State.receiveByte
  obtain h | h := h <;> rw [h]

theorem State.endDeviceReset_nodes (s : State) (straps : BitVec 2) : (s.endDeviceReset straps).nodes = s.nodes := by
  unfold State.endDeviceReset
  split <;> rfl

/-- In a read transfer no command but a device reset writes a committed output byte (R106). -/
theorem State.output_of_reading {c : Instr} (h : s.port.phase.reading) (hc : ∀ cause, c ≠ .deviceReset cause)
    (ht : exec c s = .next t) (n : NodeIx) : (t.node n).output = (s.node n).output := by
  have hkept : ∀ u : State, u.nodes = s.nodes → (u.handOverRetry.node n).output = (s.node n).output := fun u hu => by
    rw [u.kept_handOverRetry.output n, State.node_congr hu]
  have hhost : ∀ u v : State, u.nodes = s.nodes → u.HostSideKept v → (v.handOverRetry.node n).output = (s.node n).output :=
    fun u v hu hv => by rw [v.kept_handOverRetry.output n, hv.output n, State.node_congr hu]
  obtain ⟨hnodes, hphase⟩ := s.takeDueRead_nodes
  have hread : s.takeDueRead.port.phase.reading := by rw [hphase]; exact h
  by_cases hask : c.asksByte = true
  · rw [exec_asksByte hask, Host.Outcome.next.injEq] at ht
    exact ht ▸ hkept _ s.requestByte_nodes
  by_cases hsent : ∃ b, c.sentByte = some b
  · obtain ⟨b, hb⟩ := hsent
    rw [exec_sentByte hb, Host.Outcome.next.injEq, State.moment, State.receiveByte_reading hread] at ht
    exact ht ▸ hkept _ hnodes
  cases c with
  | addressByte b =>
    cases ht
    refine hkept _ ?_
    unfold State.takeAddress
    dsimp only
    split <;> exact (State.endTransfer_nodes hread).trans hnodes
  | transferEnd => cases ht; exact hkept _ ((State.endTransfer_nodes hread).trans hnodes)
  | busTimeout =>
    cases ht
    refine hkept _ ?_
    rw [State.abortTransfer, if_neg hread.not_writing.2, if_neg fun hw => hread.not_writing.1 hw.1]
    exact hnodes
  | hostNotAcknowledge =>
    cases ht
    refine hkept _ ?_
    unfold State.notAcknowledge
    split <;> exact hnodes
  | deviceReset cause => exact absurd rfl (hc cause)
  | deviceResetEnd straps =>
    cases ht
    exact hkept _ ((State.endDeviceReset_nodes _ straps).trans hnodes)
  | initPeriodEnd =>
    cases ht
    refine hkept _ ?_
    unfold State.endInit
    split <;> exact hnodes
  | cycleTimerExpiry =>
    cases ht
    show (s.takeDueRead.timerExpiry.handOverRetry.node n).output = _
    unfold State.timerExpiry
    split
    · exact hhost (s.takeDueRead.modEngine _) _ hnodes (State.kept_cycleStart _)
    · exact hkept _ hnodes
  | syncInputEdge e =>
    cases ht
    show ((s.takeDueRead.syncEdge e).handOverRetry.node n).output = _
    unfold State.syncEdge
    split
    · exact hhost _ _ hnodes (State.kept_cycleStart _)
    · exact hkept _ hnodes
  | selectAssert => cases ht; exact hhost _ _ hnodes (State.kept_assertSelect _)
  | exchangeCompletion d o =>
    cases ht
    unfold State.completionMoment
    dsimp only
    split
    · exact hkept _ hnodes
    · rw [(State.kept_completion _ d o).output n, State.node_congr hnodes]
  | attnDelayExpiry => cases ht; exact hkept _ hnodes
  | _ => first | exact absurd rfl hask | exact absurd ⟨_, rfl⟩ hsent

/-- Settles O29: the read has no read effect, and only the end of a write transfer or a device reset reaches the outputs. -/
theorem outputReadIsCommitted : Obligations.OutputReadIsCommitted :=
  ⟨fun _ _ n i hc h => exec_reading_plain hc (regAt_output n i) rfl rfl h,
    fun _ _ _ hphase hc ht n => State.output_of_reading hphase hc ht n⟩

/-! ## The snapshot -/

theorem flagsByte_eq (count : Nat) (seq alert found : Bool) :
    byteOf (count % 16) ||| bitAt seq 4 ||| bitAt alert 5 ||| bitAt found 6 =
      BitVec.ofNat 8 (count % 16 + 16 * seq.toNat + 32 * alert.toNat + 64 * found.toNat) := by
  have htable : ∀ (k : Fin 16) (seq alert found : Bool), byteOf k.val ||| bitAt seq 4 ||| bitAt alert 5 ||| bitAt found 6 =
      BitVec.ofNat 8 (k.val + 16 * seq.toNat + 32 * alert.toNat + 64 * found.toNat) := by decide
  exact htable ⟨count % 16, Nat.mod_lt _ (Nat.succ_pos 15)⟩ seq alert found

theorem lengthsByte_eq (out inp : BitVec 4) : out ++ inp = BitVec.ofNat 8 (16 * out.toNat + inp.toNat) := by
  have hor : out.toNat <<< 4 ||| inp.toNat = 16 * out.toNat + inp.toNat := by
    rw [← Nat.shiftLeft_add_eq_or_of_lt inp.isLt, Nat.shiftLeft_eq, Nat.mul_comm]
  apply BitVec.eq_of_toNat_eq
  rw [BitVec.toNat_append, hor, BitVec.toNat_ofNat, Nat.mod_eq_of_lt (by omega)]

theorem State.takeSnapshot_status (s : State) (n : NodeIx) (o : ByteIx) :
    s.takeSnapshot.status[n][o] = (s.node n).statusByte o := by
  simp [State.takeSnapshot]

theorem State.takeSnapshot_input (s : State) (n : NodeIx) (i : ByteIx) :
    s.takeSnapshot.input[n][i] = if i.val < (s.node n).inLen.toNat then (s.node n).input[i] else 0 := by
  simp [State.takeSnapshot, Node.visibleInput]

/-- A read in an area the snapshot covers, by whatever snapshot the transfer then holds (R110). -/
theorem exec_reading_snapshot {a : Addr} {r : Reg} {b : Byte} (hr : regAt a = r) (hb : s.readReg r = b)
    (heffect : s.readEffect r = s.modPort fun p => { p with snapshot := some s.snapshotNow }) (h : s.readingAt a) :
    exec .snapshotRead s = .next (State.handOverRetry { s with port := { s.port with
      pointer := nextPointer s.port.pointer, readDue := false, snapshot := some s.snapshotNow, sdaByte := some b } }) := by
  rw [exec_reading_at rfl hr h, heffect, hb]
  rfl

theorem State.snapshotNow_new (h : s.port.snapshot = none) : s.snapshotNow = s.takeSnapshot := by
  rw [State.snapshotNow, h, Option.getD_none]

theorem State.snapshotNow_held {held : Snapshot} (h : s.port.snapshot = some held) : s.snapshotNow = held := by
  rw [State.snapshotNow, h, Option.getD_some]

/-- Settles O30: the layout byte by byte, and the snapshot that is held or taken as the one source of both areas. -/
theorem snapshotIsTakenOnce : Obligations.SnapshotIsTakenOnce := by
  refine ⟨fun x => ?_, rfl, fun s n i => ⟨⟨s.takeSnapshot_status n i, s.takeSnapshot_input n i⟩, fun h hnone => ?_,
    fun h hnone => ?_, fun held hheld => ⟨fun h => ?_, fun h => ?_⟩⟩⟩
  · rw [← flagsByte_eq, ← lengthsByte_eq]
    cases ho : x.lastOutcome <;> simp [List.finRange, Node.statusByte, outcomeField, ho, byteOf]
  · have hnew := State.snapshotNow_new hnone
    rw [exec_reading_snapshot (regAt_input n i) rfl rfl h]
    simp only [State.readReg, hnew, s.takeSnapshot_input]
  · have hnew := State.snapshotNow_new hnone
    rw [exec_reading_snapshot (regAt_nodeStatus n i) rfl rfl h]
    simp only [State.readReg, hnew, s.takeSnapshot_status]
  · have hsame := State.snapshotNow_held hheld
    rw [exec_reading_snapshot (regAt_input n i) rfl rfl h]
    simp only [State.readReg, hsame, Port.gaveByte, hheld]
  · have hsame := State.snapshotNow_held hheld
    rw [exec_reading_snapshot (regAt_nodeStatus n i) rfl rfl h]
    simp only [State.readReg, hsame, Port.gaveByte, hheld]

/-! ## The captured counts -/

/-- Settles O31: each byte of either count reads and captures the count as the transfer sees it. -/
theorem countersAreCaptured : Obligations.CountersAreCaptured := by
  intro s cycle lost
  refine ⟨fun h => ?_, fun h => ?_, fun h => ?_, fun h => ?_⟩
  · rw [exec_reading_at (r := .cycleHigh) rfl (by decide) h, ← hiByte_eq]
    rfl
  · rw [exec_reading_at (r := .cycleLow) rfl (by decide) h, ← loByte_eq]
    rfl
  · rw [exec_reading_at (r := .lostHigh) rfl (by decide) h, ← hiByte_eq]
    rfl
  · rw [exec_reading_at (r := .lostLow) rfl (by decide) h, ← loByte_eq]
    rfl

end Sys2Proof.Machine
end

section
/-! SUPPORT. The registers as the host writes and reads them: which addresses are undefined or read-only, the range checks and
their locks, the node configuration, the registers that read as they stand and the slot bytes; with their statements. -/

namespace Sys2Proof.Machine

variable {s t : State}

/-! ## Refused writes -/

/-- A refused byte as a row sees it: its error at the address and nothing else but the acknowledge (R169, R172). -/
def State.refused (s : State) (c : HostError) (a : Addr) : State := { s with err := s.err.take c a, port := s.port.tookByte }

/-- A byte that its register refuses. -/
theorem exec_refused {c : Instr} {b : Byte} {a : Addr} {r : Reg} {e : HostError} (hc : c.sentByte = some b)
    (hr : regAt a = r) (he : s.writeReg r b = s.raiseHere e) (h : s.writingAt a) :
    exec c s = .next (State.handOverRetry (s.refused e a)) := by
  rw [exec_writing_at hc hr h, he, State.raiseHere_took h]
  rfl

/-- The registers that refuse every write as WRITE_RO, whatever the state (R26, R66, R101, R131, R157, R161, R164, R168, R170,
R175). -/
def Reg.readOnly : Reg → Bool
  | .deviceId | .revision | .cmdStatus | .scanState | .cycleHigh | .cycleLow | .overrunCount | .evqData | .evqLevel
  | .lostHigh | .lostLow | .evqStatus | .attnCause | .attnHeadAge | .errStatus | .errCode | .errAddrHigh | .errAddrLow
  | .txnAlloc | .txnQueued | .nodeStatus _ _ | .input _ _ => true
  | _ => false

theorem State.writeReg_readOnly {r : Reg} (h : r.readOnly = true) (s : State) (b : Byte) :
    s.writeReg r b = s.raiseHere .writeRo := by
  cases r <;> first | rfl | cases h

/-- Whether the part's address map leaves an address undefined, against the ranges and unused offsets of its tables (R175). -/
def undefinedAddr (a : Nat) : Bool :=
  decide ((0x0002 ≤ a ∧ a ≤ 0x0007) ∨ (0x000B ≤ a ∧ a ≤ 0x000F) ∨ (0x001D ≤ a ∧ a ≤ 0x001F) ∨ (0x002D ≤ a ∧ a ≤ 0x002F) ∨
    (0x0035 ≤ a ∧ a ≤ 0x0037) ∨ (0x003D ≤ a ∧ a ≤ 0x003F) ∨ (0x0060 ≤ a ∧ a ≤ 0x00FF) ∨
    (0x02C0 ≤ a ∧ a ≤ 0x02FF) ∨ (0x0380 ≤ a ∧ a ≤ 0x03FF) ∨ (0x0480 ≤ a ∧ a ≤ 0x04FF) ∨ (0x0700 ≤ a ∧ a ≤ 0x07FF) ∨
    (0x0040 ≤ a ∧ a ≤ 0x005F ∧ 6 ≤ a % 8) ∨
    (0x0100 ≤ a ∧ a ≤ 0x01FF ∧ (a % 16 = 0x6 ∨ a % 16 = 0x7 ∨ a % 16 = 0x9 ∨ a % 16 = 0xE ∨ a % 16 = 0xF)) ∨
    (0x0600 ≤ a ∧ a ≤ 0x06FF ∧ ((0x05 ≤ a % 32 ∧ a % 32 ≤ 0x07) ∨ (0x0C ≤ a % 32 ∧ a % 32 ≤ 0x0F))))

/-- The read-only addresses, against the same tables. -/
def readOnlyAddr (a : Nat) : Bool :=
  decide (a ∈ [0x0000, 0x0001, 0x000A, 0x0019, 0x001A, 0x001B, 0x001C, 0x0020, 0x0021, 0x0022, 0x0023, 0x0025, 0x002B,
    0x002C, 0x0030, 0x0031, 0x0032, 0x0033, 0x0038, 0x003C] ∨ (0x0200 ≤ a ∧ a ≤ 0x027F) ∨ (0x0400 ≤ a ∧ a ≤ 0x047F))

/-- An undefined address names no register and is no port. -/
theorem regAt_undefined : ∀ a : Fin 2048, undefinedAddr a.val = true →
    regAt (BitVec.ofFin a) = .undefined ∧ isPort (BitVec.ofFin a) = false := by
  have h : (List.finRange 2048).all (fun a => !undefinedAddr a.val ||
      (regAt (BitVec.ofFin a) == .undefined && !isPort (BitVec.ofFin a))) = true := by decide +kernel
  intro a ha
  have hone := List.all_eq_true.1 h a (List.mem_finRange a)
  rw [ha] at hone
  simpa using hone

theorem regAt_readOnly : ∀ a : Fin 2048, readOnlyAddr a.val = true → (regAt (BitVec.ofFin a)).readOnly = true := by
  have h : (List.finRange 2048).all (fun a => !readOnlyAddr a.val || (regAt (BitVec.ofFin a)).readOnly) = true := by
    decide +kernel
  intro a ha
  have hone := List.all_eq_true.1 h a (List.mem_finRange a)
  rw [ha] at hone
  simpa using hone

/-- Settles O35: an undefined address refuses with its own error and reads 0, a read-only register refuses with WRITE_RO. -/
theorem undefinedAddressesReadZero : Obligations.UndefinedAddressesReadZero := by
  refine ⟨fun s a b ha h => ?_, fun c s a ha hc h => ?_, fun c s a ha hc h => ?_, fun s a b ha h => ?_⟩
  · obtain ⟨hreg, hport⟩ := regAt_undefined a.toFin (decide_eq_true ha)
    have hnext : nextPointer s.port.pointer = a + 1 := by
      rw [h.2.2, nextPointer, if_neg (by rw [show isPort a = false from hport]; exact Bool.false_ne_true)]
    rw [exec_refused (c := .registerWrite b) rfl hreg rfl h, State.refused, Port.tookByte, hnext]
  · obtain ⟨hreg, hport⟩ := regAt_undefined a.toFin (decide_eq_true ha)
    have hnext : nextPointer s.port.pointer = a + 1 := by
      rw [h.2, nextPointer, if_neg (by rw [show isPort a = false from hport]; exact Bool.false_ne_true)]
    rw [exec_reading_plain hc hreg rfl rfl h, Port.gaveByte, hnext]
    rfl
  · obtain h0 | h1 : a = 0 ∨ a = 1 := by bv_omega
    · subst h0
      rw [exec_reading_plain hc (show regAt 0 = .deviceId by decide) rfl rfl h]
      rfl
    · subst h1
      rw [exec_reading_plain hc (show regAt 1 = .revision by decide) rfl rfl h]
      rfl
  · have hro : (regAt a).readOnly = true := regAt_readOnly a.toFin (decide_eq_true ha)
    rw [exec_refused (c := .registerWrite b) rfl rfl (s.writeReg_readOnly hro b) h]
    rfl

/-! ## Range checks and locks -/

/-- A range-checked register takes the byte or refuses it as BAD_VALUE. -/
theorem State.writeChecked_took {a : Addr} {ok : Bool} {P : Prop} [Decidable P] (hw : s.writingAt a) (h : ok = true ↔ P)
    (t : State) :
    (s.writeChecked ok t).modPort Port.tookByte = if P then t.modPort Port.tookByte else s.refused .badValue a := by
  unfold State.writeChecked
  by_cases hP : P
  · rw [if_pos (h.2 hP), if_pos hP]
  · rw [if_neg (fun hok => hP (h.1 hok)), if_neg hP, State.raiseHere_took hw]
    rfl

theorem State.writeSource_took {a : Addr} (hw : s.writingAt a) (b : Byte) :
    (s.writeSource b).modPort Port.tookByte =
      if s.engine.state ≠ .stopped then s.refused .scanLocked a
      else if b = 0 then { s with engine := { s.engine with source := .timer }, port := s.port.tookByte }
      else if b = 1 then { s with engine := { s.engine with source := .sync }, port := s.port.tookByte }
      else if b = 2 then { s with engine := { s.engine with source := .host }, port := s.port.tookByte }
      else s.refused .badValue a := by
  unfold State.writeSource
  by_cases hlock : s.engine.state ≠ .stopped
  · rw [if_pos hlock, if_pos hlock, State.raiseHere_took hw]
    rfl
  · rw [if_neg hlock, if_neg hlock, startSourceOf]
    by_cases h0 : b = 0
    · rw [if_pos h0, if_pos h0]
      rfl
    · rw [if_neg h0, if_neg h0]
      by_cases h1 : b = 1
      · rw [if_pos h1, if_pos h1]
        rfl
      · rw [if_neg h1, if_neg h1]
        by_cases h2 : b = 2
        · rw [if_pos h2, if_pos h2]
          rfl
        · rw [if_neg h2, if_neg h2]
          exact State.raiseHere_took hw _

theorem State.writeSyncEdge_took {a : Addr} (hw : s.writingAt a) (b : Byte) :
    (s.writeSyncEdge b).modPort Port.tookByte =
      if s.engine.state ≠ .stopped then s.refused .scanLocked a
      else if b = 0 then { s with engine := { s.engine with syncEdge := .rising }, port := s.port.tookByte }
      else if b = 1 then { s with engine := { s.engine with syncEdge := .falling }, port := s.port.tookByte }
      else s.refused .badValue a := by
  unfold State.writeSyncEdge
  by_cases hlock : s.engine.state ≠ .stopped
  · rw [if_pos hlock, if_pos hlock, State.raiseHere_took hw]
    rfl
  · rw [if_neg hlock, if_neg hlock, edgeOf]
    by_cases h0 : b = 0
    · rw [if_pos h0, if_pos h0]
      rfl
    · rw [if_neg h0, if_neg h0]
      by_cases h1 : b = 1
      · rw [if_pos h1, if_pos h1]
        rfl
      · rw [if_neg h1, if_neg h1]
        exact State.raiseHere_took hw _

theorem State.writeLinkMode_took {a : Addr} (hw : s.writingAt a) (b : Byte) :
    (s.writeLinkMode b).modPort Port.tookByte =
      if b = 0 then { s with engine := { s.engine with linkMode := .scanFirst }, port := s.port.tookByte }
      else if b = 1 then { s with engine := { s.engine with linkMode := .interleave }, port := s.port.tookByte }
      else if b = 2 then { s with engine := { s.engine with linkMode := .txnFirst }, port := s.port.tookByte }
      else s.refused .badValue a := by
  unfold State.writeLinkMode linkModeOf
  by_cases h0 : b = 0
  · rw [if_pos h0, if_pos h0]
    rfl
  · rw [if_neg h0, if_neg h0]
    by_cases h1 : b = 1
    · rw [if_pos h1, if_pos h1]
      rfl
    · rw [if_neg h1, if_neg h1]
      by_cases h2 : b = 2
      · rw [if_pos h2, if_pos h2]
        rfl
      · rw [if_neg h2, if_neg h2]
        exact State.raiseHere_took hw _

/-- A report is pending by the policy's own sign of a loss (R156). -/
theorem Evq.reportPending_iff (q : Evq) : q.reportPending = true ↔
    (q.policy = .keepOldest ∧ q.overflowed = true) ∨ (q.policy = .keepNewest ∧ 0 < q.lost) := by
  cases h : q.policy <;> simp [Evq.reportPending, h]

/-- EVQ_POLICY is locked while a record is stored or a report is pending (R160). -/
theorem Evq.policyLocked_iff (q : Evq) : (!q.records.isEmpty || q.reportPending) = true ↔
    q.records ≠ [] ∨ (q.policy = .keepOldest ∧ q.overflowed = true) ∨ (q.policy = .keepNewest ∧ 0 < q.lost) := by
  rw [Bool.or_eq_true, Evq.reportPending_iff, Bool.not_eq_true', List.isEmpty_eq_false_iff]

theorem State.writePolicy_took {a : Addr} (hw : s.writingAt a) (b : Byte) :
    (s.writePolicy b).modPort Port.tookByte =
      if s.evq.records ≠ [] ∨ (s.evq.policy = .keepOldest ∧ s.evq.overflowed = true) ∨
        (s.evq.policy = .keepNewest ∧ 0 < s.evq.lost) then s.refused .evqLocked a
      else if b = 0 then { s with evq := { s.evq with policy := .keepOldest }, port := s.port.tookByte }
      else if b = 1 then { s with evq := { s.evq with policy := .keepNewest }, port := s.port.tookByte }
      else s.refused .badValue a := by
  simp only [State.writePolicy, s.evq.policyLocked_iff]
  split
  · exact State.raiseHere_took hw _
  · rw [lossPolicyOf]
    by_cases h0 : b = 0
    · rw [if_pos h0, if_pos h0]
      rfl
    · rw [if_neg h0, if_neg h0]
      by_cases h1 : b = 1
      · rw [if_pos h1, if_pos h1]
        rfl
      · rw [if_neg h1, if_neg h1]
        exact State.raiseHere_took hw _

theorem joinBytes_eq (hi lo : Byte) : joinBytes hi lo = BitVec.ofNat 16 (256 * hi.toNat + lo.toNat) := by
  apply BitVec.eq_of_toNat_eq
  rw [joinBytes_toNat, BitVec.toNat_ofNat, Nat.mod_eq_of_lt (by omega)]

/-- The half of EVQ_KIND_ENABLE above bit 7 holds one bit (R150). -/
theorem kindHigh_eq (b : Byte) (k : Half) : joinBytes (b &&& Config.kindMaskHigh) (loByte k) =
    BitVec.ofNat 16 (256 * (b.toNat % 2) + k.toNat % 256) := by
  have hbit : (b &&& Config.kindMaskHigh).toNat = b.toNat % 2 := by
    rw [BitVec.toNat_and]
    exact Nat.and_one_is_mod _
  rw [joinBytes_eq, hbit, loByte_eq, BitVec.toNat_ofNat, Nat.mod_mod]

theorem kindLow_eq (b : Byte) (k : Half) : joinBytes (hiByte k) (b &&& Config.kindMaskLow) =
    BitVec.ofNat 16 (256 * (k.toNat / 256) + (b &&& 0xDE).toNat) := by
  rw [joinBytes_eq, hiByte_eq, BitVec.toNat_ofNat, Nat.mod_eq_of_lt (by omega)]
  rfl

/-- Settles O37: each register's own check, then its lock where it has one. -/
theorem rangeCheckedRegisters : Obligations.RangeCheckedRegisters := by
  intro s b kept engine attn evq locked
  have row {a : Addr} {r : Reg} {u : State} (hr : regAt a = r) (h : s.writingAt a)
      (hu : (s.writeReg r b).modPort Port.tookByte = u) :
      exec (.registerWrite b) s = .next (State.handOverRetry u) := by
    rw [exec_writing_at (c := .registerWrite b) rfl hr h, hu]
  refine ⟨fun h => ?_, fun h => ?_, fun h => ?_, fun h => ?_, fun h => ?_, fun h => ?_, fun h => ?_, fun h => ?_, fun h => ?_,
    fun h => ?_, fun h => ?_, fun h => ?_, fun h => ?_, fun h => ?_⟩
  · exact row (r := .startSource) (by decide) h (State.writeSource_took h b)
  · exact row (r := .syncEdge) (by decide) h (State.writeSyncEdge_took h b)
  · exact row (r := .evqPolicy) (by decide) h (State.writePolicy_took h b)
  · refine row (r := .kindHigh) (by decide) h ?_
    rw [← kindHigh_eq]
    rfl
  · refine row (r := .kindLow) (by decide) h ?_
    rw [← kindLow_eq]
    rfl
  · exact row (r := .linkMode) (by decide) h (State.writeLinkMode_took h b)
  · exact row (r := .schedLen) (by decide) h (State.writeChecked_took h (by simp) _)
  · exact row (r := .retryLimit) (by decide) h (State.writeChecked_took h (by simp) _)
  · exact row (r := .offlineThreshold) (by decide) h (State.writeChecked_took h (by simp) _)
  · exact row (r := .reprobeInterval) (by decide) h (State.writeChecked_took h (by simp) _)
  · exact row (r := .attnLevel) (by decide) h (State.writeChecked_took h (by simp) _)
  · exact row (r := .attnDelay) (by decide) h rfl
  · exact row (r := .attnMask) (by decide) h (State.writeChecked_took h (by simp) _)
  · exact row (r := .cmdArg) (by decide) h rfl

/-! ## CYCLE_PERIOD -/

/-- The high byte that the low byte of CYCLE_PERIOD is joined with: the held one, or the register's (R68). -/
theorem Engine.periodHigh_toNat (g : Engine) :
    (g.pendingHigh.getD (hiByte g.period)).toNat = (g.pendingHigh.map BitVec.toNat).getD (g.period.toNat / 256) := by
  cases g.pendingHigh with
  | some high => rfl
  | none =>
    rw [Option.getD_none, Option.map_none, Option.getD_none, hiByte_eq, BitVec.toNat_ofNat, Nat.mod_eq_of_lt (by omega)]

/-- Settles O38: the high byte waits, the low byte forms the value, and 0 is refused with the held byte dropped. -/
theorem cyclePeriodTakesBothBytes : Obligations.CyclePeriodTakesBothBytes := by
  intro s b
  refine ⟨fun h => ?_, fun h => ?_, fun h => ?_, fun h => ?_⟩
  · rw [exec_writing_at (c := .cyclePeriodWrite b) rfl (show regAt 0x013 = .periodHigh by decide) h]
    rfl
  · intro high value
    have hlt : value < 65536 := by
      have hhigh := (s.engine.pendingHigh.getD (hiByte s.engine.period)).isLt
      rw [Engine.periodHigh_toNat] at hhigh
      have hb := b.isLt
      show 256 * high + b.toNat < 65536
      omega
    have hvalue : joinBytes (s.engine.pendingHigh.getD (hiByte s.engine.period)) b = BitVec.ofNat 16 value := by
      rw [joinBytes_eq, Engine.periodHigh_toNat]
    have hzero : BitVec.ofNat 16 value = (0 : Half) ↔ value = 0 := by
      rw [BitVec.toNat_inj.symm, BitVec.toNat_ofNat, Nat.mod_eq_of_lt hlt]
      rfl
    rw [exec_writing_at (c := .cyclePeriodWrite b) rfl (show regAt 0x014 = .periodLow by decide) h]
    show Host.Outcome.next (State.handOverRetry ((s.writePeriodLow b).modPort Port.tookByte)) = _
    simp only [State.writePeriodLow, hvalue, hzero]
    congr 2
    split
    · exact State.raiseHere_took (s := s.modEngine fun g => { g with pendingHigh := none }) h _
    · rfl
  · rw [exec_reading_plain (c := .snapshotRead) rfl (show regAt 0x013 = .periodHigh by decide) rfl (hiByte_eq _) h]
  · rw [exec_reading_plain (c := .snapshotRead) rfl (show regAt 0x014 = .periodLow by decide) rfl (loByte_eq _) h]

end Sys2Proof.Machine
end

section
/-! SUPPORT. The tables as the host writes and reads them: node configuration, change masks, the registers that read as they
stand, and the slot bytes with the boundary one may form in WAITING; with their statements. -/

namespace Sys2Proof.Machine

variable {s t : State}

/-! ## Node configuration -/

/-- A static field is locked before its value is judged (R22). -/
theorem State.writeNodeConfig_static {P : Prop} [Decidable P] (hw : s.writingAt s.port.pointer) (n : NodeIx) {f : NodeField}
    {b : Byte} (hstatic : f.static = true) (hlegal : f.legal b = true ↔ ¬ P) :
    (s.writeNodeConfig n f b).modPort Port.tookByte =
      if (s.node n).state ≠ .disabled then s.refused .nodeLocked s.port.pointer
      else if P then s.refused .badValue s.port.pointer
      else { s with nodes := s.nodes.set n ((s.node n).set f b), port := s.port.tookByte } := by
  unfold State.writeNodeConfig
  by_cases hlock : (s.node n).state ≠ .disabled
  · rw [if_pos ⟨hstatic, hlock⟩, if_pos hlock]
    exact State.raiseHere_took hw _
  · rw [if_neg (fun h => hlock h.2), if_neg hlock]
    by_cases hP : P
    · rw [if_neg (fun h => hlegal.1 h hP), if_pos hP]
      exact State.raiseHere_took hw _
    · rw [if_pos (hlegal.2 hP), if_neg hP]
      rfl

/-- A field that is not static is judged by its range alone (R24, R25). -/
theorem State.writeNodeConfig_dynamic {P : Prop} [Decidable P] (hw : s.writingAt s.port.pointer) (n : NodeIx) {f : NodeField}
    {b : Byte} (hstatic : f.static = false) (hlegal : f.legal b = true ↔ P) :
    (s.writeNodeConfig n f b).modPort Port.tookByte =
      if P then { s with nodes := s.nodes.set n ((s.node n).set f b), port := s.port.tookByte }
      else s.refused .badValue s.port.pointer := by
  unfold State.writeNodeConfig
  rw [if_neg (fun h => by rw [hstatic] at h; exact absurd h.1 (by decide))]
  by_cases hP : P
  · rw [if_pos (hlegal.2 hP), if_pos hP]
    rfl
  · rw [if_neg (fun h => hP (hlegal.1 h)), if_neg hP]
    exact State.raiseHere_took hw _

theorem exec_writing_node {c : Instr} {b : Byte} {n : NodeIx} {k : Nat} {f : NodeField} (hc : c.sentByte = some b) (hk : k < 16)
    (hf : nodeField k = some f) (h : s.writingAt (BitVec.ofNat 11 (0x100 + 16 * n.val + k))) :
    exec c s = .next (State.handOverRetry ((s.writeNodeConfig n f b).modPort Port.tookByte)) :=
  exec_writing_at hc (regAt_nodeConfig n ⟨k, hk⟩ f hf) h

/-- OPTIONS without MATCH_ENABLE ends a match (R24, R124). -/
theorem Node.set_options (x : Node) (b : Byte) : x.set .options b =
    { x with options := b, matchState := if b.getLsbD 1 then x.matchState else false } := by
  rw [Node.set]
  cases b.getLsbD 1 <;> rfl

/-- Settles O40: the offset tells the field, the field its lock and its range. -/
theorem nodeConfigurationWrites : Obligations.NodeConfigurationWrites := by
  have here {s : State} {a : Addr} (h : s.writingAt a) : s.writingAt s.port.pointer := ⟨h.1, h.2.1, rfl⟩
  refine ⟨fun s n k b hk h => ?_, fun s n b h => ?_, fun s n k b hlow hhigh h => ?_⟩
  · have row {f : NodeField} (hf : nodeField k = some f) (hstatic : f.static = true)
        (hlegal : f.legal b = true ↔ ¬ ((k = 0 ∧ 3 < b.toNat) ∨ (k = 1 ∧ 31 < b.toNat) ∨ (k = 2 ∧ 3 < b.toNat))) :
        exec (.registerWrite b) s = .next (State.handOverRetry (
          if (s.node n).state ≠ .disabled then s.refused .nodeLocked s.port.pointer
          else if (k = 0 ∧ 3 < b.toNat) ∨ (k = 1 ∧ 31 < b.toNat) ∨ (k = 2 ∧ 3 < b.toNat) then
            s.refused .badValue s.port.pointer
          else { s with nodes := s.nodes.set n ((s.node n).set f b), port := s.port.tookByte })) := by
      rw [exec_writing_node (c := .registerWrite b) rfl (by omega) hf h, State.writeNodeConfig_static (here h) n hstatic hlegal]
    interval_cases k
    · exact row (f := .segment) rfl rfl (by simp [NodeField.legal])
    · exact row (f := .address) rfl rfl (by simp [NodeField.legal])
    · exact row (f := .profile) rfl rfl (by simp [NodeField.legal])
    · exact row (f := .outLen) rfl rfl (by simp [NodeField.legal])
    · exact row (f := .inLen) rfl rfl (by simp [NodeField.legal])
    · exact row (f := .expectType) rfl rfl (by simp [NodeField.legal])
  · have hlegal : NodeField.options.legal b = true ↔ b.toNat < 8 := by simp [NodeField.legal, Nat.lt_succ_iff]
    have hat : s.writingAt (BitVec.ofNat 11 (0x100 + 16 * n.val + 8)) := by
      rwa [show 0x100 + 16 * n.val + 8 = 0x108 + 16 * n.val by omega]
    rw [exec_writing_node (c := .optionsWrite b) rfl (by omega) (f := .options) rfl hat,
      State.writeNodeConfig_dynamic (here h) n rfl hlegal, Node.set_options]
    rfl
  · have row {f : NodeField} (hf : nodeField k = some f) (hstatic : f.static = false) (hlegal : f.legal b = true) :
        exec (.registerWrite b) s = .next (State.handOverRetry
          { s with nodes := s.nodes.set n ((s.node n).set f b), port := s.port.tookByte }) := by
      rw [exec_writing_node (c := .registerWrite b) rfl (by omega) hf h,
        State.writeNodeConfig_dynamic (P := True) (here h) n hstatic (by simp [hlegal]), if_pos trivial]
    interval_cases k
    · exact row (f := .matchValueHi) rfl rfl rfl
    · exact row (f := .matchValueLo) rfl rfl rfl
    · exact row (f := .matchMaskHi) rfl rfl rfl
    · exact row (f := .matchMaskLo) rfl rfl rfl

/-! ## The registers that read as they stand -/

theorem twoFlags_eq : ∀ a b : Bool, bitAt a 0 ||| bitAt b 1 = BitVec.ofNat 8 (a.toNat + 2 * b.toNat) := by decide

theorem Evq.reportPending_eq (q : Evq) : q.reportPending =
    ((q.policy == .keepOldest && q.overflowed) || (q.policy == .keepNewest && decide (0 < q.lost))) := by
  rw [Bool.eq_iff_iff, Evq.reportPending_iff]
  simp

theorem addrBytes_eq (a : Addr) : hiByte (a.zeroExtend 16) = BitVec.ofNat 8 (a.toNat / 256) ∧
    loByte (a.zeroExtend 16) = BitVec.ofNat 8 (a.toNat % 256) := by
  have hwide : (a.zeroExtend 16).toNat = a.toNat := by
    rw [BitVec.toNat_setWidth, Nat.mod_eq_of_lt (by omega)]
  rw [hiByte_eq, loByte_eq, hwide]
  exact ⟨rfl, rfl⟩

theorem dataFields : ∀ i : ByteIx, txnField (0x10 + i.val) = some (.wdata i) ∧ txnField (0x18 + i.val) = some (.rdata i) := by
  decide

/-- Settles O41: a mask byte is stored as it comes, and each register's byte is the one its table gives. -/
theorem maskBytesHeldAtOnce : Obligations.MaskBytesHeldAtOnce := by
  refine ⟨fun s n i b => ⟨fun h => ?_, fun h => ?_⟩, fun s c hc => ?_⟩
  · exact exec_writing_at (c := .registerWrite b) rfl (regAt_rise n i) h
  · exact exec_writing_at (c := .registerWrite b) rfl (regAt_fall n i) h
  intro reads g q pending
  have row {a : Nat} {b : Byte} (r : Reg) (hr : regAt (BitVec.ofNat 11 a) = r) (he : s.readEffect r = s)
      (hb : s.readReg r = b) : reads a b := exec_reading_plain hc hr he hb
  refine ⟨fun n i => ⟨row _ (regAt_rise n i) rfl rfl, row _ (regAt_fall n i) rfl rfl⟩, ?_, fun p => ?_, fun n => ?_,
    fun k => ⟨row _ (regAt_slot k false) rfl rfl, ?_⟩, fun e => ⟨?_, fun i => ⟨?_, ?_⟩⟩, ⟨by decide, by decide, dataFields⟩,
    by decide, by decide, by decide, by decide, by decide, by decide, by decide, by decide⟩
  · have hstatus : q.statusByte = BitVec.ofNat 8 (pending.toNat + 2 * q.overflowed.toNat) := by
      rw [Evq.statusByte, twoFlags_eq, Evq.reportPending_eq]
    have herr : errField s.err.code = match s.err.code with | none => 0 | some e => e.code := by
      cases s.err.code <;> rfl
    simp only [List.forall_mem_cons]
    exact ⟨row .cmdArg (by decide) rfl rfl, row .cmd (by decide) rfl rfl, row .cmdStatus (by decide) rfl rfl,
      row .startSource (by decide) rfl rfl, row .syncEdge (by decide) rfl rfl, row .linkMode (by decide) rfl rfl,
      row .periodHigh (by decide) rfl (hiByte_eq _), row .periodLow (by decide) rfl (loByte_eq _),
      row .schedLen (by decide) rfl rfl, row .retryLimit (by decide) rfl rfl, row .offlineThreshold (by decide) rfl rfl,
      row .reprobeInterval (by decide) rfl rfl, row .scanState (by decide) rfl rfl, row .overrunCount (by decide) rfl rfl,
      row .evqLevel (by decide) rfl rfl, row .evqPolicy (by decide) rfl rfl, row .evqStatus (by decide) rfl hstatus,
      row .kindHigh (by decide) rfl (hiByte_eq _), row .kindLow (by decide) rfl (loByte_eq _),
      row .attnLevel (by decide) rfl rfl, row .attnDelay (by decide) rfl rfl, row .attnMask (by decide) rfl rfl,
      row .attnCause (by decide) rfl rfl, row .attnHeadAge (by decide) rfl rfl,
      row .errStatus (by decide) rfl (twoFlags_eq _ _), row .errCode (by decide) rfl herr,
      row .errAddrHigh (by decide) rfl (addrBytes_eq _).1, row .errAddrLow (by decide) rfl (addrBytes_eq _).2,
      row .errClear (by decide) rfl rfl, row .txnSubmit (by decide) rfl rfl, row .txnCancel (by decide) rfl rfl,
      row .txnRelease (by decide) rfl rfl, row .txnQueued (by decide) rfl rfl, fun _ h => absurd h List.not_mem_nil⟩
  · intro x
    have field (k : Fin 8) (f : ProfileField) (hf : profileField k.val = some f) :
        reads (0x040 + 8 * p.val + k.val) (x.get f) := row _ (regAt_profile p k f hf) rfl rfl
    simp only [List.forall_mem_cons]
    exact ⟨field 0 .rate rfl, field 1 .mode rfl, field 2 .setup rfl, field 3 .hold rfl, field 4 .byteGap rfl,
      field 5 .turn rfl, fun _ h => absurd h List.not_mem_nil⟩
  · intro x
    have field (k : Fin 16) (f : NodeField) (hf : nodeField k.val = some f) :
        reads (0x100 + 16 * n.val + k.val) (x.get f) := row _ (regAt_nodeConfig n k f hf) rfl rfl
    simp only [List.forall_mem_cons]
    exact ⟨field 0 .segment rfl, field 1 .address rfl, field 2 .profile rfl, field 3 .outLen rfl, field 4 .inLen rfl,
      field 5 .expectType rfl, field 8 .options rfl, field 10 .matchValueHi rfl, field 11 .matchValueLo rfl,
      field 12 .matchMaskHi rfl, field 13 .matchMaskLo rfl, fun _ h => absurd h List.not_mem_nil⟩
  · rw [show 0x281 + 2 * k.val = 0x280 + 2 * k.val + 1 by omega]
    exact row _ (regAt_slot k true) rfl rfl
  · have field (k : Fin 32) (f : TxnField) (hf : txnField k.val = some f) :
        reads (0x600 + 32 * e.val + k.val) ((s.txn e).get f) := row _ (regAt_txn e k f hf) rfl rfl
    have hgen : (s.txn e).get .gen = BitVec.ofNat 8 (s.txn e).gen.toNat := by
      rw [Txn.get, BitVec.ofNat_toNat]
    have hresult : (s.txn e).get .result = match (s.txn e).result with | none => 0xFF | some o => o.code := by
      cases h : (s.txn e).result <;> simp [Txn.get, resultField, h, Config.noHandle]
    simp only [List.forall_mem_cons, ← hgen]
    exact ⟨field 0 .state rfl, field 1 .gen rfl, row _ (regAt_txn e 2 .result rfl) rfl hresult, field 3 .attempts rfl, field 4 .replyStatus rfl,
      field 8 .node rfl, field 9 .op rfl, field 10 .regIndex rfl, field 11 .count rfl, fun _ h => absurd h List.not_mem_nil⟩
  · have hfield : txnField (0x10 + i.val) = some (.wdata i) := (dataFields i).1
    rw [show 0x610 + 32 * e.val + i.val = 0x600 + 32 * e.val + (0x10 + i.val) by omega]
    exact row _ (regAt_txn e ⟨0x10 + i.val, by omega⟩ _ hfield) rfl rfl
  · have hfield : txnField (0x18 + i.val) = some (.rdata i) := (dataFields i).2
    rw [show 0x618 + 32 * e.val + i.val = 0x600 + 32 * e.val + (0x18 + i.val) by omega]
    exact row _ (regAt_txn e ⟨0x18 + i.val, by omega⟩ _ hfield) rfl rfl

/-! ## Candidates and boundaries -/

/-- A node is of class PROBE while it is PROBING, or OFFLINE with its countdown at 0 (R38). -/
theorem Node.probe_iff (x : Node) :
    x.serviceClass = .probe ↔ x.state = .probing ∨ (x.state = .offline ∧ x.reprobe = 0) := by
  cases h : x.state <;> simp [Node.serviceClass, h]

/-- A node is of class CYCLIC while it is ONLINE or SUSPECT (R38). -/
theorem Node.cyclic_iff (x : Node) : x.serviceClass = .cyclic ↔ x.state = .online ∨ x.state = .suspect := by
  cases h : x.state <;> simp [Node.serviceClass, h, ite_eq_iff]

/-- A node is scheduled while an enabled slot within the latched length names it (R92). -/
theorem State.scheduled_iff (s : State) (n : NodeIx) : s.scheduled n = true ↔
    ∃ k : SlotIx, k.val < s.engine.latchedLen ∧ s.slots[k].enabled = true ∧ s.slots[k].node = n := by
  simp [State.scheduled, and_assoc]

theorem State.not_scheduled_iff (s : State) (n : NodeIx) : s.scheduled n = false ↔
    ∀ k : SlotIx, k.val < s.engine.latchedLen → s.slots[k].enabled = true → s.slots[k].node ≠ n := by
  rw [← Bool.not_eq_true, State.scheduled_iff]
  push Not
  rfl

theorem State.needsGapProbe_iff (s : State) (n : NodeIx) : s.needsGapProbe n = true ↔
    (s.node n).serviceClass = .probe ∧ s.scheduled n = false ∧ (s.node n).gapMark = false := by
  simp [State.needsGapProbe, and_assoc]

theorem State.unscheduledProbe_iff (s : State) : s.unscheduledProbe = true ↔
    ∃ n, (s.node n).serviceClass = .probe ∧ s.scheduled n = false := by
  simp [State.unscheduledProbe]

theorem State.calm_of_idle (h : s.link.work = none) : s.calm :=
  State.calm_iff.2 fun w l hw _ => by rw [h] at hw; cases hw

/-- On an idle link a boundary is the choice. -/
theorem State.idleBoundary_idle (h : s.link.work = none) : s.idleBoundary = s.choose := by
  rw [State.idleBoundary, Link.idle, h]
  rfl

/-- With a work item in progress there is no boundary. -/
theorem State.idleBoundary_busy (h : s.link.work ≠ none) : s.idleBoundary = s := by
  rw [State.idleBoundary, if_neg]
  simpa using (Link.not_idle_iff _).2 h

/-- A choice made within a byte is the choice made after it, and no retry waits then. -/
theorem State.choose_took (h : s.link.work = none) (f : Port → Port) :
    ((s.choose).modPort f).handOverRetry = (s.modPort f).choose := by
  rw [← State.choose_modPort, State.handOverRetry_calm]
  exact State.calm_choose (State.calm_of_idle h)

/-! ## Slot bytes -/

theorem divCode_eq (b : Byte) : divCode b = b.toNat / 16 % 8 := by
  simp [divCode, Nat.shiftRight_eq_div_pow]

theorem phaseOf_eq (b : Byte) : phaseOf b = b.toNat % 16 := by
  simp [phaseOf]

theorem topBit_iff (b : Byte) : b.getLsbD 7 = true ↔ 128 ≤ b.toNat := by
  rw [BitVec.getLsbD, Nat.testBit_eq_decide_div_mod_eq, decide_eq_true_iff]
  omega

theorem slotByteLegal_iff (second : Bool) (b : Byte) : slotByteLegal second b = true ↔
    if second then b.toNat < 128 ∧ b.toNat / 16 ≤ 4 ∧ b.toNat % 16 < 2 ^ (b.toNat / 16) else b.toNat / 16 % 8 = 0 := by
  cases second with
  | false =>
    have hzero : b.extractLsb' 4 3 = 0#3 ↔ b.toNat / 16 % 8 = 0 := by
      rw [BitVec.toNat_inj.symm, ← divCode_eq]
      rfl
    simp [slotByteLegal, slotByte0Legal, hzero]
  | true =>
    have htop : (!b.getLsbD 7) = true ↔ b.toNat < 128 := by
      rw [Bool.not_eq_true', ← Bool.not_eq_true, topBit_iff, Nat.not_le]
    simp only [slotByteLegal, slotByte1Legal, if_true, Bool.and_eq_true, htop, decide_eq_true_iff, divCode_eq, phaseOf_eq,
      and_assoc]
    refine and_congr_right fun hlow => ?_
    rw [Nat.mod_eq_of_lt (by omega)]

/-- Settles O42: the byte is judged on its own; a legal one is stored, and in WAITING an unscheduled node of class PROBE makes
it a boundary. -/
theorem slotWriteJudged : Obligations.SlotWriteJudged := by
  refine ⟨fun sl => ⟨topBit_iff _, ?_, ?_, phaseOf_eq _⟩, fun s k second b hw => ?_⟩
  · exact phaseOf_eq _
  · rw [Slot.divisor, divCode_eq]
  intro legal written claims
  have hlegal : slotByteLegal second b = true ↔ legal := slotByteLegal_iff second b
  let t := s.setSlot k (s.slots[k].put second b)
  have htook : t.modPort Port.tookByte = written := rfl
  have hclaims : t.unscheduledProbe = true ↔ claims := by
    simp only [State.unscheduledProbe_iff, Node.probe_iff, State.not_scheduled_iff]
    rfl
  have hrow : exec (.slotWrite b) s = .next (State.handOverRetry ((s.writeSlot k second b).modPort Port.tookByte)) :=
    exec_writing_at (c := .slotWrite b) rfl (regAt_slot k second) hw
  have htaken (h : legal) : s.writeSlot k second b =
      if s.engine.state = .waiting ∧ claims then t.idleBoundary else t := by
    rw [State.writeSlot_eq, if_pos (hlegal.2 h)]
    simp only [← hclaims]
    rfl
  have hplain (h : legal) (hno : ¬ (s.engine.state = .waiting ∧ claims)) :
      exec (.slotWrite b) s = .next (State.handOverRetry written) := by
    rw [hrow, htaken h, if_neg hno, htook]
  have hbusy (h : legal) (hno : s.engine.state ≠ .waiting ∨ s.link.work ≠ none) :
      exec (.slotWrite b) s = .next (State.handOverRetry written) := by
    by_cases hc : s.engine.state = .waiting ∧ claims
    · have hwork : t.link.work ≠ none := hno.resolve_left (not_not_intro hc.1)
      rw [hrow, htaken h, if_pos hc, State.idleBoundary_busy hwork, htook]
    · exact hplain h hc
  have hidle (h : legal) (hwait : s.engine.state = .waiting) (hlink : s.link.work = none) :
      (claims → exec (.slotWrite b) s = .next written.choose) ∧ (¬ claims → exec (.slotWrite b) s = .next written) := by
    refine ⟨fun hc => ?_, fun hc => ?_⟩
    · rw [hrow, htaken h, if_pos ⟨hwait, hc⟩, State.idleBoundary_idle (s := t) hlink, State.choose_took (s := t) hlink, htook]
    · rw [hplain h (fun hno => hc hno.2), State.handOverRetry_calm (State.calm_of_idle (s := written) hlink)]
  refine ⟨fun h => ?_, hbusy, hidle, fun h => ?_⟩
  · rw [hrow, State.writeSlot_eq, if_neg (fun hl => h (hlegal.1 hl)),
      State.raiseHere_took (a := s.port.pointer) ⟨hw.1, hw.2.1, rfl⟩]
  · by_cases hno : s.engine.state ≠ .waiting ∨ s.link.work ≠ none
    · exact ⟨_, hbusy h hno, State.kept_handOverRetry _⟩
    · obtain ⟨hwait, hlink⟩ := not_or.1 hno
      obtain ⟨hchosen, hsame⟩ := hidle h (not_not.1 hwait) (not_not.1 hlink)
      by_cases hc : claims
      · exact ⟨_, hchosen hc, State.kept_choose _⟩
      · exact ⟨_, hsame hc, .refl _⟩

end Sys2Proof.Machine
end

section
/-! SUPPORT. A transfer from its address byte to its end: the address and pointer bytes, the acknowledge of a data byte, what
the end of a transfer releases and what the end of a write transfer commits; with their statements. -/

namespace Sys2Proof.Machine

variable {s t : State}

/-! ## A waiting retry and the port -/

theorem State.handOver_modPort (s : State) (f : Port → Port) (w : WorkItem) :
    (s.modPort f).handOver w = (s.handOver w).modPort f := by
  rw [State.handOver_eq, State.handOver_eq]
  rfl

theorem State.idleBoundary_modPort (s : State) (f : Port → Port) :
    (s.modPort f).idleBoundary = s.idleBoundary.modPort f := by
  unfold State.idleBoundary
  rw [State.modPort_link, State.choose_modPort]
  split <;> rfl

/-- The hand-over of a retry and a change of the port do not meet. -/
theorem State.handOverRetry_modPort (s : State) (f : Port → Port) :
    (s.modPort f).handOverRetry = s.handOverRetry.modPort f := by
  unfold State.handOverRetry
  rw [State.modPort_link, State.modPort_engine]
  split
  · split
    · split
      · rfl
      · exact s.handOver_modPort f _
    · rfl
  · rfl

theorem State.handOverRetry_twice (s : State) : s.handOverRetry.handOverRetry = s.handOverRetry := by
  by_cases hcalm : s.handOverRetry.calm
  · exact State.handOverRetry_calm hcalm
  · have hsame : s.handOverRetry = s := by
      unfold State.handOverRetry at hcalm ⊢
      split
      · next w hw =>
        rw [hw] at hcalm
        split
        · next l hl =>
          simp only [hl] at hcalm
          split
          · rfl
          · next hdrain =>
            rw [if_neg hdrain] at hcalm
            exact absurd (State.calm_handOver _ _) hcalm
        · rfl
      · rfl
    rw [hsame, hsame]

/-! ## The address byte -/

/-- The port after an address byte that comes outside a transfer: one with the part's address, outside resets, begins a
transfer (R171, R172). -/
def Port.called (running : Bool) (b : Byte) (p : Port) : Port :=
  if running = true ∧ b.extractLsb' 1 7 = p.target then p.begin (b.getLsbD 0) else { p with ack := false }

theorem State.endTransfer_idle (h : s.port.phase = .idle) : s.endTransfer = s := if_pos h

theorem State.takeAddress_eq (s : State) (b : Byte) :
    s.takeAddress b = s.endTransfer.modPort (Port.called (s.endTransfer.power == .running) b) := by
  unfold State.takeAddress State.modPort Port.called
  simp only [beq_iff_eq]
  split <;> rfl

theorem exec_address (hd : s.port.readDue = false) (b : Byte) : exec (.addressByte b) s =
    .next (State.handOverRetry (s.endTransfer.modPort (Port.called (s.endTransfer.power == .running) b))) := by
  show Host.Outcome.next (State.moment (·.takeAddress b) s) = _
  rw [State.moment_notDue _ hd, State.takeAddress_eq]

theorem exec_transferEnd (hd : s.port.readDue = false) : exec .transferEnd s = .next s.endTransfer.handOverRetry :=
  congrArg Host.Outcome.next (State.moment_notDue State.endTransfer hd)

theorem exec_busTimeout (hd : s.port.readDue = false) : exec .busTimeout s = .next s.abortTransfer.handOverRetry :=
  congrArg Host.Outcome.next (State.moment_notDue State.abortTransfer hd)

/-- The port's address is 0x58 plus the straps: the sum does not pass seven bits (R171). -/
theorem Port.target_toNat (p : Port) : p.target.toNat = 0x58 + p.straps.toNat := by
  rw [Port.target, BitVec.toNat_add, BitVec.toNat_setWidth, show Config.baseTarget.toNat = 0x58 from rfl]
  omega

/-- An address byte names the address in bits 7–1 and the direction in bit 0 (R171). -/
theorem addressBits_iff (b : Byte) (p : Port) : b.extractLsb' 1 7 = p.target ↔ b.toNat / 2 = p.target.toNat := by
  rw [BitVec.toNat_inj.symm, BitVec.extractLsb'_toNat, Nat.shiftRight_eq_div_pow, Nat.mod_eq_of_lt (by omega)]

theorem lowBit_eq (b : Byte) : b.getLsbD 0 = (b.toNat % 2 == 1) := by
  rw [BitVec.getLsbD, Nat.testBit_zero]
  rfl

/-- The pointer takes the low eleven bits of its two bytes (R172, R174). -/
theorem pointerOf_toNat (high low : Byte) : (pointerOf high low).toNat = (256 * high.toNat + low.toNat) % 2048 := by
  rw [pointerOf, BitVec.extractLsb'_toNat, joinBytes_toNat]
  rfl

/-- No transfer is under way, and no byte of one is due, once a transfer has ended. -/
theorem State.endTransfer_readDue (hd : s.port.readDue = false) : s.endTransfer.port.readDue = false := by
  unfold State.endTransfer
  repeat' split
  all_goals first | exact hd | rfl

/-- Settles O24: the address byte outside a transfer, the same within one, and the two pointer bytes. -/
theorem addressAndPointerBytes : Obligations.AddressAndPointerBytes := by
  refine ⟨Port.target_toNat, fun s b hd hidle hrun ha => ?_, fun s b hd hidle hno => ?_, fun s b hd => ?_,
    fun s b hd hp => ?_, fun s high b hd hp hheld => ?_⟩
  · have hbits : b.extractLsb' 1 7 = s.port.target := (addressBits_iff b s.port).2 ha
    have hcalled : s.port.called (s.power == .running) b = s.port.begin (b.toNat % 2 == 1) := by
      rw [Port.called, if_pos ⟨beq_iff_eq.2 hrun, hbits⟩, lowBit_eq]
    rw [exec_address hd, State.endTransfer_idle hidle, State.modPort, hcalled, Port.begin]
    simp only [beq_iff_eq]
  · have hbits : ¬ ((s.power == .running) = true ∧ b.extractLsb' 1 7 = s.port.target) := by
      rw [addressBits_iff, beq_iff_eq]
      tauto
    rw [exec_address hd, State.endTransfer_idle hidle, State.modPort, Port.called, if_neg hbits]
  · have hkept := State.kept_handOverRetry s.endTransfer
    have hphase : s.endTransfer.handOverRetry.port.phase = .idle := by
      rw [hkept.port]
      exact s.endTransfer_phase
    have hdue : s.endTransfer.handOverRetry.port.readDue = false := by
      rw [hkept.port]
      exact State.endTransfer_readDue hd
    refine ⟨_, exec_transferEnd hd, hphase, ?_⟩
    rw [exec_address hd, exec_address hdue, State.endTransfer_idle hphase, State.handOverRetry_modPort,
      State.handOverRetry_modPort, State.handOverRetry_twice, hkept.power]
  · rw [exec_sentByte (b := b) rfl, State.moment_notDue _ hd, State.receiveByte, hp]
    rfl
  · refine ⟨pointerOf high b, pointerOf_toNat high b, ?_⟩
    rw [exec_sentByte (b := b) rfl, State.moment_notDue _ hd, State.receiveByte, hp]
    simp only [State.modPort, hheld, Option.getD_some]

/-! ## Data bytes -/

theorem nextPointer_eq (a : Addr) : nextPointer a = if a = 0x009 ∨ a = 0x020 ∨ a = 0x038 then a else a + 1 := by
  simp only [nextPointer, isPort, Bool.or_eq_true, beq_iff_eq, or_assoc]

theorem nextPointer_toNat (a : Addr) : (nextPointer a).toNat =
    if a.toNat = 0x009 ∨ a.toNat = 0x020 ∨ a.toNat = 0x038 then a.toNat else (a.toNat + 1) % 2048 := by
  have hport : (a = 0x009 ∨ a = 0x020 ∨ a = 0x038) ↔ (a.toNat = 0x009 ∨ a.toNat = 0x020 ∨ a.toNat = 0x038) := by
    simp only [BitVec.toNat_inj.symm]
    rfl
  rw [nextPointer_eq]
  simp only [hport]
  split
  · rfl
  · rw [BitVec.toNat_add]
    rfl

/-- The port of a byte taken in the data phase: neither the register nor a waiting retry concerns it but for the staging and
the soft reset mark (R172, R174). -/
theorem State.dataByte_port (s : State) (b : Byte) :
    s.port.tookByte.SameTransfer (s.dataByte b).handOverRetry.port := by
  rw [(State.kept_handOverRetry _).port]
  have hwrite := s.writeReg_port (regAt s.port.pointer) b
  unfold Port.SameTransfer at hwrite ⊢
  rw [State.dataByte, State.modPort_port, hwrite]
  rfl

/-- Settles O25: a data byte reaches the register at the pointer whatever row carries it, and the port goes on. -/
theorem dataByteAcknowledged : Obligations.DataByteAcknowledged := by
  refine ⟨nextPointer_eq, ⟨fun _ => rfl, rfl⟩, fun c b s hc hd hp => ?_, fun c b s hc hd hp => ?_, fun c c' b s hc hc' => ?_⟩
  · have hbyte : s.receiveByte b = s.dataByte b := by rw [State.receiveByte, hp]
    have hport := s.dataByte_port b
    refine ⟨_, exec_sentByte hc s, ?_⟩
    rw [State.moment_notDue _ hd, hbyte, hport, ← nextPointer_toNat]
    exact ⟨hp, rfl, rfl, rfl⟩
  · rw [exec_sentByte hc, State.moment_notDue _ hd, State.receiveByte]
    obtain h | h | h := hp <;> rw [h]
  · rw [exec_sentByte hc, exec_sentByte hc']

/-! ## What the end of a transfer releases -/

theorem State.requestByte_eq (h : s.port.phase = .readData) : s.requestByte = s.supplyByte := if_pos h

/-- A read leaves the Link Controller as it was. -/
theorem State.supplyByte_link (s : State) : s.supplyByte.link = s.link := by
  show (s.readEffect _).link = s.link
  unfold State.readEffect
  split <;> try rfl
  unfold State.allocate
  split <;> rfl

/-- Settles O26: the byte that is due, the byte not acknowledged, and the release by STOP and by bus timeout. -/
theorem transferReleasesWhatItHeld : Obligations.TransferReleasesWhatItHeld := by
  refine ⟨fun c r s t hc hr hdue hp hcalm ht => ?_, fun s hd => ⟨fun hp => ?_, fun c hc hp => ?_, fun hp => ?_,
    fun hp hm => ?_, fun hp => ⟨?_, ?_⟩⟩⟩
  · have hcalm' : s.supplyByte.calm := State.calm_of_link (State.calm_iff.2 hcalm) s.supplyByte_link
    have hread : exec r s = .next s.takeDueRead := by
      rw [exec_asksByte hr, State.readMoment, State.requestByte_eq hp, State.handOverRetry_calm hcalm', State.takeDueRead,
        if_pos hdue]
    rw [hread, Host.Outcome.next.injEq] at ht
    rw [exec_due hc, ht]
  · show Host.Outcome.next (State.moment State.notAcknowledge s) = _
    rw [State.moment_notDue _ hd, State.notAcknowledge, if_pos hp]
    rfl
  · rw [exec_asksByte hc, State.readMoment, State.requestByte, if_neg (by simp [hp])]
  · have hend : s.endTransfer = (s.modEvq Evq.close).modPort Port.release := by
      have hreading : s.port.phase.reading := hp
      rw [State.endTransfer, if_neg hreading.not_writing.2, if_neg hreading.not_writing.1]
    rw [exec_transferEnd hd, hend]
    rfl
  · have habort : s.abortTransfer = (s.modEvq Evq.close).modPort Port.release := by
      rw [State.abortTransfer, if_neg hp, if_neg (fun h => by rw [hm] at h; exact absurd h.2 (by decide))]
    rw [exec_busTimeout hd, habort]
    rfl
  · rw [exec_transferEnd hd, State.endTransfer_idle hp]
  · rw [exec_busTimeout hd, State.abortTransfer, if_pos hp]

/-! ## Staging and commit -/

/-- Settles O27: the byte is the staging's at its position, and the staging answers for no other. -/
theorem outputWriteIsStaged : Obligations.OutputWriteIsStaged := fun s n i b h =>
  ⟨s.port.staging.write (outputPos n i) b, exec_writing_at (c := .outputWrite b) rfl (regAt_output n i) h,
    fun _ => Memory.read_write _ _ _ _⟩

/-- The commit, before the boundary it may form (R95, R104). -/
def State.withCommit (s : State) : State :=
  { s with
    nodes := tabulate 16 fun n => (s.node n).commit (committed s.port.staging n (s.node n).output)
    port := { s.port with staging := [] } }

theorem State.commitStaging_eq (s : State) :
    s.commitStaging = if s.commitClaims = true then s.withCommit.idleBoundary else s.withCommit := rfl

/-- The end of a write transfer is the commit, with the choice where the commit claims one on an idle link (R86, R176). -/
theorem State.endTransfer_commit (hw : s.port.phase.writing = true) (hm : s.port.softMark = false) :
    s.endTransfer = if s.commitClaims = true then (s.withCommit.modPort Port.release).idleBoundary
      else s.withCommit.modPort Port.release := by
  have hidle : s.port.phase ≠ .idle := by
    intro h
    rw [h] at hw
    cases hw
  rw [State.endTransfer, if_neg hidle, if_pos hw, if_neg (by simp [hm]), State.commitStaging_eq,
    State.idleBoundary_modPort]
  split <;> rfl

/-- A commit claims a boundary where it sets the due flag of a node of class CYCLIC (R86, R95). -/
theorem State.commitClaims_iff (s : State) : s.commitClaims = true ↔ ∃ n, (s.node n).serviceClass = .cyclic ∧
    (s.node n).commitSetsDue (committed s.port.staging n (s.node n).output) = true := by
  simp [State.commitClaims]

/-- Settles O28: the commit in one step, then the choice, the retry or nothing by the link and the claim. -/
theorem commitReplacesOutputs : Obligations.CommitReplacesOutputs := by
  intro s hd hp hm output changed com claims
  have hw : s.port.phase.writing = true := by obtain h | h | h := hp <;> rw [h] <;> rfl
  have hclaims : s.commitClaims = true ↔ claims := by
    simp only [State.commitClaims_iff, Node.cyclic_iff]
    rfl
  have hrow : exec .transferEnd s =
      .next (State.handOverRetry (if s.commitClaims = true then com.idleBoundary else com)) := by
    rw [exec_transferEnd hd, State.endTransfer_commit hw hm]
    rfl
  have hbusy (h : s.link.work ≠ none) : exec .transferEnd s = .next com.handOverRetry := by
    rw [hrow, State.idleBoundary_busy (s := com) h, ite_self]
  have hchosen (h : s.link.work = none) (hc : claims) : exec .transferEnd s = .next com.choose := by
    rw [hrow, if_pos (hclaims.2 hc), State.idleBoundary_idle (s := com) h, State.handOverRetry_calm]
    exact State.calm_choose (State.calm_of_idle (s := com) h)
  have hsame (h : s.link.work = none) (hc : ¬ claims) : exec .transferEnd s = .next com := by
    rw [hrow, if_neg (fun hcl => hc (hclaims.1 hcl)), State.handOverRetry_calm (State.calm_of_idle (s := com) h)]
  have hleft {t : State} (hk : com.HostSideKept t) (hcmd : t.cmd = s.cmd) :
      (∀ (n : NodeIx) (i : ByteIx),
        (t.node n).output[i] = (s.port.staging.read (8 * n.val + i.val)).getD (s.node n).output[i]) ∧
      t.port = com.port ∧ t.err = s.err ∧ t.cmd = s.cmd ∧ t.attn = s.attn := by
    refine ⟨fun n i => ?_, hk.port, hk.err, hcmd, hk.attn⟩
    have hnode : (com.node n).output = output n := by simp [com, State.node]
    rw [hk.output n, hnode]
    simp [output]
  refine ⟨hbusy, hchosen, hsame, ?_⟩
  by_cases h : s.link.work = none
  · by_cases hc : claims
    · exact ⟨_, hchosen h hc, hleft (State.kept_choose _) (State.chosen_choose com).cmd⟩
    · exact ⟨_, hsame h hc, hleft (.refl _) rfl⟩
  · exact ⟨_, hbusy h, hleft (State.kept_handOverRetry _) (State.chosen_handOverRetry com).cmd⟩

end Sys2Proof.Machine
end

section
/-! SUPPORT. The event queue from the disposal of an event to the bytes of an item at EVQ_DATA, and the attention causes; with
their statements. -/

namespace Sys2Proof.Machine

variable {s t : State} {q : Evq} {ev : Record}

/-! ## Merging -/

theorem Record.mergeable_iff (r ev : Record) : r.mergeable ev = true ↔ r.kind = .inputChange ∧ r.node = ev.node := by
  simp [Record.mergeable]

/-- Without a mergeable record there is nothing to fold an event into (R152). -/
theorem mergeLast_none {l : List Record} (h : ∀ r ∈ l, r.kind = .inputChange → r.node ≠ ev.node) : mergeLast ev l = none := by
  induction l with
  | nil => rfl
  | cons r rest ih =>
    have hr : ¬ r.mergeable ev = true := by
      rw [Record.mergeable_iff]
      exact fun hm => h r List.mem_cons_self hm.1 hm.2
    rw [mergeLast, ih fun r' hr' => h r' (List.mem_cons_of_mem _ hr')]
    exact if_neg hr

/-- An event is folded into the last mergeable record (R152). -/
theorem mergeLast_some {r : Record} {before after : List Record} (hkind : r.kind = .inputChange) (hnode : r.node = ev.node)
    (hafter : ∀ r' ∈ after, r'.kind = .inputChange → r'.node ≠ ev.node) :
    mergeLast ev (before ++ r :: after) = some (before ++ r.merge ev :: after) := by
  induction before with
  | nil =>
    show mergeLast ev (r :: after) = some (r.merge ev :: after)
    rw [mergeLast, mergeLast_none hafter]
    exact if_pos ((r.mergeable_iff ev).2 ⟨hkind, hnode⟩)
  | cons x rest ih =>
    show mergeLast ev (x :: (rest ++ r :: after)) = _
    rw [mergeLast, ih]
    rfl

/-- The records an event may be folded into: all but an open head (R152). -/
def Evq.closed (q : Evq) : List Record := if q.headOpen then q.records.tail else q.records

/-- The merge is into a closed record, behind whatever stays open (R152). -/
theorem Evq.mergeTarget_eq (q : Evq) (ev : Record) (h : ev.kind = .inputChange) :
    q.mergeTarget ev = (mergeLast ev q.closed).map (q.records.take (q.records.length - q.closed.length) ++ ·) := by
  rw [Evq.mergeTarget, if_pos h, Evq.closed]
  cases hopen : q.headOpen with
  | false => simp
  | true => cases hrec : q.records <;> simp [mergeLast]

theorem Evq.mergeTarget_apart (h : ev.kind = .inputChange → ∀ r ∈ q.closed, r.kind = .inputChange → r.node ≠ ev.node) :
    q.mergeTarget ev = none := by
  by_cases hkind : ev.kind = .inputChange
  · rw [Evq.mergeTarget_eq q ev hkind, mergeLast_none (h hkind), Option.map_none]
  · rw [Evq.mergeTarget, if_neg hkind]

theorem Evq.mergeTarget_last {r : Record} {before after : List Record} (hev : ev.kind = .inputChange)
    (hrec : q.records = before ++ r :: after) (hkind : r.kind = .inputChange) (hnode : r.node = ev.node)
    (hafter : ∀ r' ∈ after, r'.kind = .inputChange → r'.node ≠ ev.node) (hopen : before = [] → q.headOpen = false) :
    q.mergeTarget ev = some (before ++ r.merge ev :: after) := by
  rw [Evq.mergeTarget, if_pos hev]
  split
  · next head rest htrue hcons =>
    cases before with
    | nil => exact absurd (hopen rfl) (by simp [htrue])
    | cons x before =>
      obtain ⟨rfl, rfl⟩ : head = x ∧ rest = before ++ r :: after := by simpa using hcons.symm.trans hrec
      rw [mergeLast_some hkind hnode hafter]
      rfl
  · rw [hrec]
    exact mergeLast_some hkind hnode hafter

/-- The count of a merged record stays at 255 (R152). -/
theorem countByte_eq (b : Byte) : byteOf (succUpTo 255 b.toNat) = if b = 255 then 255 else b + 1 := by
  have htop : b.toNat < 255 ↔ b ≠ 255 := by
    rw [Ne, BitVec.toNat_inj.symm]
    exact ⟨fun h => Nat.ne_of_lt h, fun h => by have := b.isLt; simp at h; omega⟩
  unfold succUpTo
  by_cases h : b = 255
  · subst h
    rfl
  · rw [if_pos (htop.2 h), if_neg h]
    apply BitVec.eq_of_toNat_eq
    rw [byteOf, BitVec.toNat_ofNat, BitVec.toNat_add]
    rfl

/-! ## The disposal of an event -/

theorem Evq.headOpen_iff (q : Evq) : q.headOpen = true ↔ ∃ k, q.reading = some { item := .stored, next := k } := by
  unfold Evq.headOpen
  cases h : q.reading with
  | none => simp
  | some r =>
    obtain ⟨item, next⟩ := r
    simp

/-- An event that nothing stands in the way of and nothing takes up is appended while there is room (R151). -/
theorem Evq.dispose_room (hover : ¬ (q.policy = .keepOldest ∧ q.overflowed = true)) (hmerge : q.mergeTarget ev = none)
    (h : q.records.length < 32) : q.dispose ev = q.append ev := by
  rw [Evq.dispose, if_neg hover, hmerge]
  exact if_pos h

/-- On a full list KEEP_OLDEST loses the event and begins an overflow (R153). -/
theorem Evq.dispose_oldest (hover : ¬ (q.policy = .keepOldest ∧ q.overflowed = true)) (hmerge : q.mergeTarget ev = none)
    (h : 32 ≤ q.records.length) (hp : q.policy = .keepOldest) : q.dispose ev = { q.lose with overflowed := true } := by
  rw [Evq.dispose, if_neg hover, hmerge]
  refine (if_neg (Nat.not_lt.2 h)).trans ?_
  split
  · rfl
  · next hnew => exact absurd (hp.symm.trans hnew) (by decide)

/-- On a full list KEEP_NEWEST makes room (R154). -/
theorem Evq.dispose_newest (hmerge : q.mergeTarget ev = none) (h : 32 ≤ q.records.length) (hp : q.policy = .keepNewest) :
    q.dispose ev = q.lose.discardOldest.append ev := by
  rw [Evq.dispose, if_neg (fun ho => absurd (hp.symm.trans ho.1) (by decide)), hmerge]
  refine (if_neg (Nat.not_lt.2 h)).trans ?_
  split
  · next hold => exact absurd (hp.symm.trans hold) (by decide)
  · rfl

/-- Room is made behind an open head, else at the head, whose follower's age then begins (R154, R166). -/
theorem Evq.discardOldest_eq {first second : Record} {rest : List Record} (h : q.records = first :: second :: rest) :
    q.discardOldest = if q.headOpen then { q with records := first :: rest }
      else { q with records := second :: rest, headAge := 0, headSub := 0 } := by
  unfold Evq.discardOldest
  cases hopen : q.headOpen <;> simp [h, Evq.restartAge]

theorem Evq.append_nonempty (h : q.records ≠ []) (ev : Record) : q.append ev = { q with records := q.records ++ [ev] } :=
  if_neg (by simpa using h)

theorem EventKind.maskable_iff (k : EventKind) : k.maskable = true ↔ k ≠ .reset ∧ k ≠ .txnEnd := by
  cases k <;> simp [EventKind.maskable]

/-- An event is dropped where its kind can be masked and its bit is 0 (R150). -/
theorem Evq.passes_iff (q : Evq) (k : EventKind) :
    q.passes k = true ↔ ¬ (k ≠ .reset ∧ k ≠ .txnEnd ∧ q.kindEnable.getLsbD k.code.toNat = false) := by
  rw [← and_assoc, ← EventKind.maskable_iff, Evq.passes]
  simp [Bool.or_eq_true, imp_iff_not_or]

theorem State.emit_passing {k : EventKind} (h : s.evq.passes k = true) (n a b : Byte) : s.emit k n a b =
    { s with evq := s.evq.dispose { kind := k, node := n, stamp := s.engine.cycle, arg0 := a, arg1 := b } } := if_pos h

/-- Settles O58: the mask, the overflow, the merge, and then the depth with its policy. -/
theorem eventDisposal : Obligations.EventDisposal := by
  refine ⟨rfl, Evq.headOpen_iff, fun s k n a b => ?_⟩
  intro ev q shut overflowed closed apart lost into
  have hpass (h : ¬ shut) : s.emit k n a b = into (q.dispose ev) := State.emit_passing ((q.passes_iff k).2 h) n a b
  have hmerge (ha : apart) : q.mergeTarget ev = none := Evq.mergeTarget_apart ha
  refine ⟨fun h => ?_, fun h hover => ?_, fun h hover hkind before r after hrec hr hn hafter hopen => ?_,
    fun h hover ha hroom hne => ?_, fun h hover hnil => ?_, fun h hover ha hfull hpolicy => ?_,
    fun h ha hpolicy first second rest hrec hfull => ?_⟩
  · exact if_neg fun hp => (q.passes_iff k).1 hp h
  · rw [hpass h, Evq.dispose, if_pos hover]
    rfl
  · rw [hpass h, Evq.dispose, if_neg hover, Evq.mergeTarget_last (ev := ev) hkind hrec hr hn hafter hopen, ← countByte_eq]
    rfl
  · rw [hpass h, Evq.dispose_room hover (hmerge ha) hroom, Evq.append_nonempty hne]
  · have ha : apart := by
      intro _ r hr
      have hclosed : closed = [] := by simp [closed, hnil]
      rw [hclosed] at hr
      cases hr
    rw [hpass h, Evq.dispose_room hover (hmerge ha) (by simp [hnil]), Evq.append, hnil]
    rfl
  · rw [hpass h, Evq.dispose_oldest hover (hmerge ha) hfull hpolicy]
    rfl
  · have hrec' : q.lose.records = first :: second :: rest := hrec
    rw [hpass h, Evq.dispose_newest (hmerge ha) hfull hpolicy, Evq.discardOldest_eq hrec']
    show into (Evq.append (if q.headOpen = true then _ else _) ev) = _
    split <;> rfl

/-! ## The bytes of an item -/

/-- The six bytes of an item in their order (R148). -/
def itemBytes (kind node : Byte) (stamp : Half) (arg0 arg1 : Byte) (k : Fin 6) : Byte :=
  [kind, node, BitVec.ofNat 8 (stamp.toNat / 256), BitVec.ofNat 8 (stamp.toNat % 256), arg0, arg1].getD k.val 0

theorem Record.byte_eq (r : Record) (k : Fin 6) : r.byte k = itemBytes r.kind.code r.node r.stamp r.arg0 r.arg1 k := by
  unfold itemBytes
  rw [← hiByte_eq, ← loByte_eq]
  fin_cases k <;> rfl

theorem madeUpByte_eq (kind : Byte) (stamp arg : Half) (k : Fin 6) :
    madeUpByte kind stamp arg k = itemBytes kind 0xFF stamp (hiByte arg) (loByte arg) k := by
  unfold itemBytes
  rw [← hiByte_eq, ← loByte_eq]
  fin_cases k <;> rfl

theorem countBytes_eq (count : Nat) : hiByte (BitVec.ofNat 16 count) = BitVec.ofNat 8 (count / 256) ∧
    loByte (BitVec.ofNat 16 count) = BitVec.ofNat 8 (count % 256) := by
  rw [hiByte_eq, loByte_eq]
  constructor <;> apply BitVec.eq_of_toNat_eq <;> simp only [BitVec.toNat_ofNat] <;> omega

/-- A byte read at EVQ_DATA is the next byte of the item that is open, or now opened, and the pointer stays (R157, R174). -/
theorem exec_evqDataRead (h : s.readingAt 0x020) {r : Reading} (hr : s.evq.current s.engine.cycle = r) :
    exec .evqDataRead s = .next (State.handOverRetry { s with
      evq := if r.next = 5 then s.evq.finishItem r.item else { s.evq with reading := some { r with next := r.next + 1 } }
      port := { s.port with readDue := false, sdaByte := some (s.evq.itemByte r.item r.next) } }) := by
  have hstay : nextPointer s.port.pointer = s.port.pointer := by
    rw [h.2]
    decide
  have hbyte : s.evq.readByte s.engine.cycle = (s.evq.itemByte r.item r.next,
      if r.next = 5 then s.evq.finishItem r.item else { s.evq with reading := some { r with next := r.next + 1 } }) := by
    rw [Evq.readByte, hr]
  rw [exec_reading_at rfl (show regAt 0x020 = .evqData by decide) h]
  show Host.Outcome.next (State.handOverRetry { s with
    evq := (s.evq.readByte s.engine.cycle).2
    port := { s.port with
      pointer := nextPointer s.port.pointer, readDue := false, sdaByte := some (s.evq.readByte s.engine.cycle).1 } }) = _
  rw [hbyte, hstay]

theorem Evq.current_open {r : Reading} (h : q.reading = some r) (cycle : Half) : q.current cycle = r := by
  rw [Evq.current, h]

theorem Evq.current_new (h : q.reading = none) (cycle : Half) :
    q.current cycle = { item := q.headItem cycle, next := 0 } := by
  rw [Evq.current, h]

/-- Losses under KEEP_OLDEST are an overflow (R153). -/
theorem Evq.overflowed_of_sound (h : q.sound = true) (hp : q.policy = .keepOldest) :
    q.overflowed = decide (0 < q.lost) := by
  have hok := (Evq.sound_iff q).1 h
  rw [Bool.eq_iff_iff, decide_eq_true_iff]
  exact hok.oldest hp

theorem Evq.headItem_stored (hrec : q.records ≠ []) (h : q.policy = .keepOldest ∨ q.lost = 0) (cycle : Half) :
    q.headItem cycle = .stored := by
  unfold Evq.headItem
  cases hp : q.policy <;> simp_all

theorem Evq.headItem_report (hs : q.sound = true) (hlost : 0 < q.lost) (h : q.policy = .keepNewest ∨ q.records = [])
    (cycle : Half) : q.headItem cycle = .report cycle q.lost := by
  unfold Evq.headItem
  cases hp : q.policy with
  | keepNewest => simp [hlost]
  | keepOldest =>
    have hover := Evq.overflowed_of_sound hs hp
    simp_all

theorem Evq.headItem_empty (hs : q.sound = true) (hlost : q.lost = 0) (hrec : q.records = []) (cycle : Half) :
    q.headItem cycle = .empty cycle := by
  unfold Evq.headItem
  cases hp : q.policy with
  | keepNewest => simp [hlost, hrec]
  | keepOldest =>
    have hover := Evq.overflowed_of_sound hs hp
    simp_all

/-- What a report leaves when it ends: the overflow lasts while a loss is left (R153, R156). -/
theorem Evq.finishItem_report (hs : q.sound = true) (stamp : Half) (count : Nat) : q.finishItem (.report stamp count) =
    { q with reading := none, lost := q.lost - count, overflowed := q.policy == .keepOldest && decide (count < q.lost) } := by
  have hleft : (q.overflowed && q.policy == .keepOldest && q.lost - count != 0) =
      (q.policy == .keepOldest && decide (count < q.lost)) := by
    cases hp : q.policy with
    | keepNewest => rw [show (LossPolicy.keepNewest == .keepOldest) = false from rfl, Bool.and_false, Bool.false_and]; rfl
    | keepOldest =>
      rw [Evq.overflowed_of_sound hs hp, Bool.eq_iff_iff]
      simp
      omega
  rw [← hleft]
  rfl

theorem Evq.itemByte_stored {r : Record} {rest : List Record} (h : q.records = r :: rest) (k : Fin 6) :
    q.itemByte .stored k = itemBytes r.kind.code r.node r.stamp r.arg0 r.arg1 k := by
  rw [← Record.byte_eq, Evq.itemByte, h]
  rfl

theorem Evq.finishItem_stored {r : Record} {rest : List Record} (h : q.records = r :: rest) :
    q.finishItem .stored = { q with records := rest, reading := none, headAge := 0, headSub := 0 } := by
  simp [Evq.finishItem, Evq.restartAge, h]

/-- Settles O59: the item a first byte opens, each later byte of the three kinds of item, and what the sixth one ends. -/
theorem queueReadReturnsItems : Obligations.QueueReadReturnsItems := by
  refine ⟨rfl, fun s h => ?_⟩
  intro q gave item goesOn
  refine ⟨Record.byte_eq, fun r rest hnone hrec hp => ?_, fun r rest k hopen hrec => ?_, fun hnone hs hlost hp => ?_,
    fun stamp count k hopen hs => ?_, fun hnone hs hlost hrec => ?_, fun stamp k hopen => ?_⟩
  · have hitem := Evq.headItem_stored (by simp [hrec]) hp s.engine.cycle
    rw [exec_evqDataRead h (Evq.current_new hnone _), hitem, Evq.itemByte_stored hrec]
    rfl
  · rw [exec_evqDataRead h (Evq.current_open hopen _), Evq.itemByte_stored hrec, Evq.finishItem_stored hrec]
    rfl
  · have hitem := Evq.headItem_report hs hlost hp s.engine.cycle
    rw [exec_evqDataRead h (Evq.current_new hnone _), hitem]
    rfl
  · rw [exec_evqDataRead h (Evq.current_open hopen _), Evq.itemByte, madeUpByte_eq, (countBytes_eq count).1,
      (countBytes_eq count).2, Evq.finishItem_report hs]
    rfl
  · have hitem := Evq.headItem_empty hs hlost hrec s.engine.cycle
    rw [exec_evqDataRead h (Evq.current_new hnone _), hitem]
    rfl
  · rw [exec_evqDataRead h (Evq.current_open hopen _), Evq.itemByte, madeUpByte_eq]
    rfl

/-! ## Attention -/

theorem State.evqReady_iff (s : State) : s.evqReady = true ↔ s.attn.level.toNat ≤ s.evq.records.length ∨
    s.evq.reportPending = true ∨ (s.attn.delay ≠ 0 ∧ s.evq.records ≠ [] ∧ s.attn.delay.toNat ≤ s.evq.headAge) := by
  simp [State.evqReady, or_assoc, and_assoc]

theorem State.attnLow_iff (s : State) : s.attnLow = true ↔ s.power = .running ∧
    ((s.evqReady = true ∧ s.attn.mask.getLsbD 0 = true) ∨ (s.err.flag = true ∧ s.attn.mask.getLsbD 1 = true)) := by
  simp [State.attnLow]

/-- ATTN_CAUSE holds its three bits in places 0, 1 and 7 (R164). -/
theorem causeBits : ∀ ready err low : Bool, let read := bitAt ready 0 ||| bitAt err 1 ||| bitAt low 7
    read.getLsbD 0 = ready ∧ read.getLsbD 1 = err ∧ read.getLsbD 7 = low ∧
      ∀ k : Fin 7, 2 ≤ k.val → read.getLsbD k.val = false := by decide

/-- Settles O60: the bits of ATTN_CAUSE are the two causes and the line, and the delay's expiry is the age it reaches. -/
theorem attentionCauses : Obligations.AttentionCauses := by
  refine ⟨Evq.reportPending_iff, fun s => ?_, fun s hd hrec hdelay hage => ?_⟩
  · intro ready low read
    have hready : s.evqReady = true ↔ ready := s.evqReady_iff
    have hlow : s.attnLow = true ↔ low := by rw [s.attnLow_iff, hready]
    obtain ⟨h0, h1, h7, hrest⟩ := causeBits s.evqReady s.err.flag s.attnLow
    have hread : read = bitAt s.evqReady 0 ||| bitAt s.err.flag 1 ||| bitAt s.attnLow 7 := rfl
    rw [hread, h0, h1, h7]
    exact ⟨hlow, hready, Iff.rfl, hlow, fun k hlo hhi => hrest ⟨k, by omega⟩ hlo⟩
  · have hreach : s.evq.reachDelay s.attn.delay = { s.evq with headAge := s.attn.delay.toNat, headSub := 0 } :=
      if_pos (by simpa [hrec, hage] using hdelay)
    show Host.Outcome.next (State.moment (fun s => s.modEvq (·.reachDelay s.attn.delay)) s) = _
    rw [State.moment_notDue _ hd, State.modEvq, hreach]

end Sys2Proof.Machine
end

section
/-! SUPPORT. The scan link: how a reply is assembled and classified, the request of an exchange and the time it takes, and the
select line; with the statements about them. -/

namespace Sys2Proof.Machine

variable {s t : State}

/-! ## Replies -/

/-- The assembled reply, byte by byte: what was driven, and ones beyond it (R8). -/
theorem Exchange.replyBytes_eq (x : Exchange) (driven : List Byte) :
    x.replyBytes driven = (List.range (x.replyLen + 2)).map fun i => driven.getD i 0xFF := by
  apply List.ext_getElem?
  intro i
  rw [Exchange.replyBytes, List.getElem?_take, List.getElem?_map]
  by_cases hi : i < x.replyLen + 2
  · rw [if_pos hi, List.getElem?_range hi, Option.map_some]
    by_cases hd : i < driven.length
    · rw [List.getElem?_append_left hd, List.getD_eq_getElem?_getD, List.getElem?_eq_getElem hd, Option.getD_some]
    · rw [List.getElem?_append_right (by omega), List.getElem?_replicate, if_pos (by omega), List.getD_eq_default _ _ (by omega)]
      rfl
  · rw [if_neg hi, List.getElem?_eq_none (by simpa using hi)]
    rfl

theorem Exchange.replyBytes_length (x : Exchange) (driven : List Byte) :
    (x.replyBytes driven).length = 1 + x.replyLen + 1 := by
  rw [x.replyBytes_eq]
  simp
  omega

theorem Exchange.replyBytes_getElem? (x : Exchange) (driven : List Byte) {i : Nat} (hi : i < 1 + x.replyLen + 1) :
    (x.replyBytes driven)[i]? = some (driven.getD i 0xFF) := by
  rw [x.replyBytes_eq, List.getElem?_map, List.getElem?_range (by omega), Option.map_some]

theorem Exchange.replyBytes_head (x : Exchange) (driven : List Byte) :
    (x.replyBytes driven).headD 0xFF = driven.getD 0 0xFF := by
  rw [List.headD_eq_head?_getD, List.head?_eq_getElem?, x.replyBytes_getElem? driven (by omega), Option.getD_some]

theorem Exchange.replyBytes_last (x : Exchange) (driven : List Byte) :
    (x.replyBytes driven).getLastD 0xFF = driven.getD (1 + x.replyLen) 0xFF := by
  rw [List.getLastD_eq_getLast?, List.getLast?_eq_getElem?, x.replyBytes_length, Nat.add_sub_cancel,
    x.replyBytes_getElem? driven (by omega), Option.getD_some]

/-- The payload lies between the status byte and the check byte (R8). -/
theorem Exchange.replyPayload_eq (x : Exchange) (driven : List Byte) :
    replyPayload (x.replyBytes driven) = (List.range x.replyLen).map fun k => driven.getD (1 + k) 0xFF := by
  have hrange : (List.range (x.replyLen + 2)).tail.dropLast = (List.range x.replyLen).map (1 + ·) := by
    rw [List.range_succ_eq_map, List.tail_cons, List.range_succ, List.map_append, List.map_singleton, List.dropLast_concat]
    exact List.map_congr_left fun _ _ => Nat.succ_eq_one_add _
  rw [replyPayload, x.replyBytes_eq, ← List.map_tail, ← List.map_dropLast, hrange, List.map_map]
  rfl

/-- What it means for each outcome to be the first of a chain of conditions that holds (R10). -/
theorem firstCondition_iff : ∀ absent bad stale busy acked : Bool,
    let o : LinkOutcome := if absent then .noReply else if bad then .checkError else if stale then .seqError
      else if busy then .busy else if !acked then .refused else .ok
    (o = .noReply ↔ absent = true) ∧ (o = .checkError ↔ absent = false ∧ bad = true) ∧
    (o = .seqError ↔ absent = false ∧ bad = false ∧ stale = true) ∧
    (o = .busy ↔ absent = false ∧ bad = false ∧ stale = false ∧ busy = true) ∧
    (o = .refused ↔ absent = false ∧ bad = false ∧ stale = false ∧ busy = false ∧ acked = false) ∧
    (o = .ok ↔ absent = false ∧ bad = false ∧ stale = false ∧ busy = false ∧ acked = true) := by
  decide

/-- The conditions of R10 in their order, as what each outcome means. -/
theorem classify_iff (toggle : Bool) (reply : List Byte) :
    let st := replyStatus reply
    let checked : Prop := replyCheck reply = checkByte reply.dropLast
    (classify toggle reply = .noReply ↔ st.getLsbD 7 = true) ∧
    (classify toggle reply = .checkError ↔ st.getLsbD 7 = false ∧ ¬ checked) ∧
    (classify toggle reply = .seqError ↔ st.getLsbD 7 = false ∧ checked ∧ st.getLsbD 5 ≠ toggle) ∧
    (classify toggle reply = .busy ↔ st.getLsbD 7 = false ∧ checked ∧ st.getLsbD 5 = toggle ∧ st.getLsbD 3 = true) ∧
    (classify toggle reply = .refused ↔ st.getLsbD 7 = false ∧ checked ∧ st.getLsbD 5 = toggle ∧ st.getLsbD 3 = false ∧
      st.getLsbD 6 = false) ∧
    (classify toggle reply = .ok ↔ st.getLsbD 7 = false ∧ checked ∧ st.getLsbD 5 = toggle ∧ st.getLsbD 3 = false ∧
      st.getLsbD 6 = true) := by
  intro st checked
  have hfirst := firstCondition_iff (st.getLsbD 7) (replyCheck reply != checkByte reply.dropLast) (st.getLsbD 5 != toggle)
    (st.getLsbD 3) (st.getLsbD 6)
  change (classify toggle reply = _ ↔ _) ∧ (classify toggle reply = _ ↔ _) ∧ (classify toggle reply = _ ↔ _) ∧
    (classify toggle reply = _ ↔ _) ∧ (classify toggle reply = _ ↔ _) ∧ (classify toggle reply = _ ↔ _) at hfirst
  simp only [bne_iff_ne, bne_eq_false_iff_eq] at hfirst
  exact hfirst

theorem LinkOutcome.deliversStatus_iff (o : LinkOutcome) : o.deliversStatus = true ↔ o = .ok ∨ o = .busy ∨ o = .refused := by
  cases o <;> simp [LinkOutcome.deliversStatus]

/-- Settles O14: the assembled reply, the record's fields, and R10's conditions in their order. -/
theorem replyClassification : Obligations.ReplyClassification := by
  refine ⟨fun x attempt driven => ?_, rfl⟩
  intro reply status checked o r
  have hhead : status = driven.getD 0 0xFF := x.replyBytes_head driven
  refine ⟨x.replyBytes_length driven, fun i hi => x.replyBytes_getElem? driven hi, hhead, x.replyBytes_last driven,
    ⟨rfl, rfl, rfl, rfl⟩, ?_, ?_, classify_iff x.toggle reply⟩
  · have hstatus : r.status = if o.deliversStatus then some status else none := rfl
    simp only [hstatus, o.deliversStatus_iff, hhead]
  · rw [← x.replyPayload_eq driven]
    rfl

/-! ## Requests -/

theorem Exchange.header_toNat (x : Exchange) :
    x.header.toNat = 8 * (x.address.toNat % 32) + 2 * x.op.code.toNat + x.toggle.toNat := by
  have hop := x.op.code.isLt
  have haddr : (x.address.extractLsb' 0 5).toNat = x.address.toNat % 32 := by simp
  have hinner : (x.address.extractLsb' 0 5 ++ x.op.code).toNat = 4 * (x.address.toNat % 32) + x.op.code.toNat := by
    rw [BitVec.toNat_append, haddr, ← Nat.shiftLeft_add_eq_or_of_lt hop, Nat.shiftLeft_eq]
    omega
  have hbit : (BitVec.ofBool x.toggle).toNat < 2 ^ 1 := (BitVec.ofBool x.toggle).isLt
  rw [Exchange.header, BitVec.toNat_append, hinner, ← Nat.shiftLeft_add_eq_or_of_lt hbit, Nat.shiftLeft_eq, BitVec.toNat_ofBool]
  omega

theorem Exchange.request_length (x : Exchange) : x.request.length = 1 + x.payload.length + 1 := by
  simp [Exchange.request]
  omega

/-- An exchange takes eight bit times for each byte, the gaps, SETUP and HOLD (R15). -/
theorem Exchange.duration_eq (x : Exchange) : x.duration =
    (x.request.length + x.profile.turn.toNat + 1 + x.replyLen + 1) * 8 * 2 ^ x.profile.rate.toNat +
    (x.request.length + x.profile.turn.toNat + 1 + x.replyLen) * x.profile.byteGap.toNat * 2 ^ x.profile.rate.toNat +
    4 * (x.profile.setup.toNat + x.profile.hold.toNat) := by
  have hcount : x.byteCount = x.request.length + x.profile.turn.toNat + 1 + x.replyLen + 1 := by
    rw [x.request_length, Exchange.byteCount]
  rw [Exchange.duration, hcount, Nat.add_sub_cancel, Profile.bitTime]
  ring

theorem Exchange.waveform_length (x : Exchange) : x.waveform.length =
    16 * (x.request.length + x.profile.turn.toNat + 1 + x.replyLen + 1) +
    2 * x.profile.byteGap.toNat * (x.request.length + x.profile.turn.toNat + 1 + x.replyLen) := by
  have hrequest : x.request.length = x.request.length - 1 + 1 := by
    rw [x.request_length]
    omega
  rw [Exchange.waveform, List.length_append, List.length_append, bytesHalves_length, bytesHalves_length,
    x.gapAfterRequest_length, List.length_replicate, hrequest]
  simp only [Nat.add_sub_cancel]
  ring

/-- The levels on the lines stand exactly as long as the exchange takes; a span is counted in half the unit of a duration
(R15). -/
theorem Exchange.signal_duration (x : Exchange) : (x.signal.map LineSpan.duration).sum = 2 * x.duration := by
  have hclocked : ((x.waveform.map fun h => (⟨h, x.profile.bitTime⟩ : LineSpan)).map LineSpan.duration).sum =
      x.waveform.length * x.profile.bitTime := by
    rw [List.map_map, show LineSpan.duration ∘ (fun h => (⟨h, x.profile.bitTime⟩ : LineSpan)) =
      Function.const _ x.profile.bitTime from rfl, List.map_const, List.sum_replicate, smul_eq_mul]
  rw [Exchange.signal, List.cons_append, List.map_cons, List.sum_cons, List.map_append, List.sum_append, hclocked,
    x.waveform_length, x.duration_eq, Profile.bitTime]
  simp only [List.map_cons, List.map_nil, List.sum_cons, List.sum_nil]
  ring

/-- Each shift of the check byte, by the weight of its top bit (R7). -/
theorem crcShift_eq (w : Byte) : crcShift w = if w.toNat < 128 then w <<< 1 else (w <<< 1) ^^^ 0x2F := by
  unfold crcShift
  by_cases h : w.getLsbD 7 = true
  · rw [if_pos h, if_neg (Nat.not_lt.2 ((topBit_iff w).1 h))]
    rfl
  · rw [if_neg h, if_pos (Nat.not_le.1 fun hle => h ((topBit_iff w).2 hle))]

/-- Settles O15: the frame of any exchange, and what the hand-over latches for each op. -/
theorem requestFrame : Obligations.RequestFrame := by
  unfold Obligations.RequestFrame
  intro step
  refine ⟨⟨rfl, fun covered b => ?_⟩, rfl, rfl, fun s n h toggle => ?_⟩
  · have hstep : crcShift = step := funext crcShift_eq
    rw [checkByte, List.foldl_append, ← hstep]
    rfl
  · intro y t sent
    have hsent (x : Exchange) (haddr : x.address = y.address) (htoggle : x.toggle = toggle) : sent x x.payload x.replyLen := by
      refine ⟨rfl, rfl, ?_, rfl, x.duration_eq, x.signal_duration⟩
      rw [x.header_toNat, haddr, htoggle]
    refine ⟨fun c op => ⟨rfl, rfl, rfl, rfl, rfl, rfl, fun p hp => ?_⟩, fun c => ?_, fun c => ?_, ?_, ?_⟩
    · have hindex : Fin.ofNat 4 y.profile.toNat = p := by
        rw [← hp]
        exact Fin.ofNat_val_eq_self p
      exact congrArg (fun p : ProfileIx => s.link.profiles[p]) hindex
    · have hx := hsent (s.latch c .cyclic n toggle) rfl rfl
      cases c <;> exact hx
    · have hx := hsent (s.latch c .ident n toggle) rfl rfl
      cases c <;> exact hx
    · exact hsent (s.latch (.txn h) .readReg n toggle) rfl rfl
    · exact hsent (s.latch (.txn h) .writeReg n toggle) rfl rfl

/-! ## The select line -/

theorem Link.exchange_inFlight {l : Link} {w : WorkItem} {x : Exchange} (hw : l.work = some w) (hx : w.phase = .inFlight x) :
    l.exchange = some x := by
  rw [Link.exchange, hw]
  simp only [hx]

theorem Link.exchange_some {l : Link} {x : Exchange} (h : l.exchange = some x) :
    ∃ w, l.work = some w ∧ w.phase = .inFlight x := by
  unfold Link.exchange at h
  split at h
  · next w hw =>
    split at h
    · next y hy => exact ⟨w, hw, by rw [hy, Option.some.inj h]⟩
    · cases h
  · cases h

/-- An exchange in flight leaves no retry waiting. -/
theorem State.calm_inFlight {w : WorkItem} {x : Exchange} (hw : s.link.work = some w) (hx : w.phase = .inFlight x) : s.calm :=
  State.calm_iff.2 fun w' l hw' hl => by
    rw [hw, Option.some.injEq] at hw'
    subst hw'
    rw [hx] at hl
    cases hl

/-- Without a driven exchange SDO and the select lines are high (R1). -/
theorem State.lines_high (h : ∀ w x, s.link.work = some w → w.phase = .inFlight x → x.selected = false) :
    s.sdoRest = true ∧ ∀ k, s.selectLow k = false := by
  unfold State.sdoRest State.selectLow
  cases he : s.link.exchange with
  | none => exact ⟨rfl, fun _ => rfl⟩
  | some x =>
    obtain ⟨w, hw, hx⟩ := Link.exchange_some he
    simp [h w x hw hx]

/-- Settles O16: the levels at rest, and what the assertion of the select line drives. -/
theorem selectAssertDrivesLine : Obligations.SelectAssertDrivesLine := by
  refine ⟨fun s => ?_, fun s => State.lines_high, fun s w x hd hw hx => ?_⟩
  · simp [State.sckRest, sckIdleHigh]
  · let w' : WorkItem := { w with phase := .inFlight { x with selected := true } }
    let t : State := { s with link := { s.link with rested := true, work := some w' } }
    have hassert : s.assertSelect = t := by
      rw [State.assertSelect, hw]
      simp only [hx]
      rfl
    have hexchange : t.link.exchange = some { x with selected := true } := Link.exchange_inFlight (w := w') rfl rfl
    refine ⟨t, ?_, rfl, ?_, fun k => ?_⟩
    · show Host.Outcome.next (State.moment State.assertSelect s) = _
      rw [State.moment_next hd (by rw [hassert]; exact State.calm_inFlight (w := w') rfl rfl), hassert]
    · rw [State.sdoRest, hexchange]
      rfl
    · rw [State.selectLow, hexchange]
      exact Bool.true_and _

end Sys2Proof.Machine
end

section
/-! SUPPORT. What the arbiter hands over: a retry, the first claim of each order of choice, and the end of a cycle that finds
none; with the statements about them. -/

namespace Sys2Proof.Machine

variable {s t : State}

/-! ## A retry -/

theorem State.handOverRetry_pending {w : WorkItem} {r : Completion} (hw : s.link.work = some w)
    (hr : w.phase = .retryPending r) (hd : s.engine.state ≠ .draining) : s.handOverRetry =
      s.withExchange { w with attempt := w.attempt + 1 } (s.latch w.cls w.op w.node w.toggle) := by
  rw [State.handOverRetry, hw]
  simp only [hr]
  rw [if_neg hd, State.handOver_eq]

/-- A driven exchange in flight is what a completion is of (R3). -/
theorem exec_completion {w : WorkItem} {x : Exchange} (hd : s.port.readDue = false) (hw : s.link.work = some w)
    (hx : w.phase = .inFlight x) (hsel : x.selected = true) (driven : List Byte) (o : RetryOrder) :
    exec (.exchangeCompletion driven o) s = .next (s.completeAttempt w x driven o) := by
  have hwaits : s.link.retryWaits = false := by
    rw [Link.retryWaits, hw]
    simp only [hx]
  show Host.Outcome.next (s.completionMoment driven o) = _
  rw [State.completionMoment, State.takeDueRead_none hd]
  simp only [hwaits, Bool.false_eq_true, if_false]
  rw [State.completion, hw]
  simp only [hx, hsel, if_true]

/-- The state after a completed attempt, before it is decided whether it was the last one (R2, R12, R136). -/
def State.attempted (s : State) (w : WorkItem) (r : Completion) : State :=
  ((s.modLink fun l => { l with rested := false }).updateToggle r).countAttempt w.cls

theorem State.completeAttempt_eq (s : State) (w : WorkItem) (x : Exchange) (driven : List Byte) (o : RetryOrder) :
    s.completeAttempt w x driven o =
      if (s.attempted w (x.complete w.attempt driven)).retries w (x.complete w.attempt driven) = true then
        let u := (s.attempted w (x.complete w.attempt driven)).modLink fun l =>
          { l with work := some { w with phase := .retryPending (x.complete w.attempt driven) } }
        match o with
        | .retryFirst => u.handOverRetry
        | .requestFirst => u
      else ((s.attempted w (x.complete w.attempt driven)).finishWork w (x.complete w.attempt driven)).choose := rfl

theorem State.attempted_engine (s : State) (w : WorkItem) (r : Completion) : (s.attempted w r).engine = s.engine := by
  unfold State.attempted State.countAttempt State.updateToggle
  split <;> split <;> rfl

/-- An outcome is retried within RETRY_LIMIT, unless the retries are suppressed or the engine is DRAINING (R17, R19, R79). -/
theorem State.retries_iff (s : State) (w : WorkItem) (r : Completion) : s.retries w r = true ↔
    r.outcome ≠ .ok ∧ r.outcome ≠ .refused ∧ w.attempt ≤ s.engine.retryLimit.toNat ∧ w.suppressed = false ∧
      s.engine.state ≠ .draining := by
  cases ho : r.outcome <;> simp [State.retries, LinkOutcome.retryable, ho, and_assoc]

/-- Settles O17: where no retry waits there is nothing to hand over; one that waits is latched anew, and the completed attempt
is counted before either. -/
theorem retryFollowsAttempt : Obligations.RetryFollowsAttempt := by
  refine ⟨fun s h => State.handOverRetry_calm (State.calm_iff.2 h), fun s w r hw hr hd => ?_,
    fun s w x driven hdue hw hx hsel hok hrefused hlimit hsup hd => ?_⟩
  · exact ⟨State.handOverRetry_pending hw hr hd, rfl, rfl, rfl, rfl, State.kept_handOverRetry s⟩
  intro counted y
  have hcounted : s.attempted w (x.complete w.attempt driven) = counted := by
    simp only [State.attempted, State.updateToggle_of_failed _ hok, State.countAttempt, counted]
    cases w.cls <;> rfl
  have hretries : (s.attempted w (x.complete w.attempt driven)).retries w (x.complete w.attempt driven) = true := by
    rw [State.retries_iff, State.attempted_engine]
    exact ⟨hok, hrefused, hlimit, hsup, hd⟩
  let u : State := { counted with link := { counted.link with
    work := some { w with phase := .retryPending (x.complete w.attempt driven) } } }
  have hfirst : s.completeAttempt w x driven .retryFirst = u.handOverRetry := by
    rw [State.completeAttempt_eq, if_pos hretries, hcounted]
    rfl
  have hsecond : s.completeAttempt w x driven .requestFirst = u := by
    rw [State.completeAttempt_eq, if_pos hretries, hcounted]
    rfl
  refine ⟨⟨u.handOverRetry, ?_, ?_, rfl, rfl, rfl, rfl, ?_⟩, ⟨u, ?_, rfl, ?_⟩⟩
  · rw [exec_completion hdue hw hx hsel, hfirst]
  · exact State.handOverRetry_pending (s := u) (w := { w with phase := .retryPending (x.complete w.attempt driven) }) rfl rfl hd
  · rw [← hfirst]
    exact s.kept_completeAttempt w x driven _
  · rw [exec_completion hdue hw hx hsel, hsecond]
  · rw [← hsecond]
    exact s.kept_completeAttempt w x driven _

/-! ## The first of a list -/

/-- The first index with a property is the one below which none has it. -/
theorem findFirst_some {n : Nat} {p : Fin n → Bool} {P : Fin n → Prop} (hp : ∀ i, p i = true ↔ P i) {k : Fin n} (h : P k)
    (hlow : ∀ m < k, ¬ P m) : (List.finRange n).find? p = some k := by
  rw [← Fin.find?_eq_find?_finRange, Fin.find?_eq_some_iff]
  exact ⟨(hp k).2 h, fun m hm => Bool.eq_false_iff.2 fun hpm => hlow m hm ((hp m).1 hpm)⟩

theorem findFirst_none {n : Nat} {p : Fin n → Bool} {P : Fin n → Prop} (hp : ∀ i, p i = true ↔ P i) (h : ∀ k, ¬ P k) :
    (List.finRange n).find? p = none :=
  List.find?_eq_none.2 fun k _ hk => h k ((hp k).1 hk)

/-! ## The claims of the classes -/

/-- An urgent refresh of a node is due (R93). -/
def State.urgent (s : State) (n : NodeIx) : Prop :=
  (s.node n).due = true ∧ ((s.node n).state = .online ∨ (s.node n).state = .suspect)

/-- A node claims a gap probe (R92). -/
def State.gap (s : State) (n : NodeIx) : Prop :=
  ((s.node n).state = .probing ∨ ((s.node n).state = .offline ∧ (s.node n).reprobe = 0)) ∧
    ¬ (∃ k : SlotIx, k.val < s.engine.latchedLen ∧ s.slots[k].enabled = true ∧ s.slots[k].node = n) ∧
    (s.node n).gapMark = false

/-- A slot from the cursor on is applicable and has a node to serve (R63, R75). -/
def State.yields (s : State) (k : SlotIx) : Prop :=
  s.engine.cursor ≤ k.val ∧ k.val < s.engine.latchedLen ∧ s.slots[k].enabled = true ∧
    s.engine.cycle.toNat % s.slots[k].divisor = s.slots[k].phase ∧
    (((s.node s.slots[k].node).state = .online ∨ (s.node s.slots[k].node).state = .suspect) ∨
      ((s.node s.slots[k].node).state = .probing ∨
        ((s.node s.slots[k].node).state = .offline ∧ (s.node s.slots[k].node).reprobe = 0)))

theorem State.urgent_iff (s : State) (n : NodeIx) :
    ((s.node n).due && (s.node n).serviceClass == .cyclic) = true ↔ s.urgent n := by
  rw [Bool.and_eq_true, beq_iff_eq, Node.cyclic_iff]
  rfl

theorem State.gap_iff (s : State) (n : NodeIx) : s.needsGapProbe n = true ↔ s.gap n := by
  rw [State.needsGapProbe_iff, Node.probe_iff, ← Bool.not_eq_true, State.scheduled_iff]
  rfl

theorem Node.served_iff (x : Node) : x.serviceClass ≠ .none ↔ x.serviceClass = .cyclic ∨ x.serviceClass = .probe := by
  cases h : x.serviceClass <;> simp

theorem State.yields_iff (s : State) (k : SlotIx) :
    (decide (s.engine.cursor ≤ k.val) && s.slotYields k) = true ↔ s.yields k := by
  simp only [State.slotYields, State.applicable, Bool.and_eq_true, decide_eq_true_iff, beq_iff_eq, bne_iff_ne,
    Node.served_iff, Node.cyclic_iff, Node.probe_iff, State.yields]
  tauto

/-- The urgent refresh is held back: the last work was one, or none is due (R90, R91). -/
def State.held (s : State) : Prop := s.link.prev = .urgent ∨ ∀ n, ¬ s.urgent n

theorem State.tryUrgent_some {n : NodeIx} (h : s.urgent n) (hlow : ∀ m < n, ¬ s.urgent m) :
    s.tryUrgent = some (s.startWork .urgent .cyclic n) := by
  rw [State.tryUrgent, State.urgentNode, findFirst_some s.urgent_iff h hlow]
  rfl

theorem State.tryUrgent_none (h : ∀ n, ¬ s.urgent n) : s.tryUrgent = none := by
  rw [State.tryUrgent, State.urgentNode, findFirst_none s.urgent_iff h]
  rfl

theorem State.tryUrgentFirst_held (h : s.held) : s.tryUrgentFirst = none := by
  unfold State.tryUrgentFirst
  split
  · rfl
  · next hprev => exact State.tryUrgent_none (h.resolve_left hprev)

theorem State.tryGapProbe_some {n : NodeIx} (h : s.gap n) (hlow : ∀ m < n, ¬ s.gap m) :
    s.tryGapProbe = some ((s.startWork .gapProbe .ident n).modNode n fun x => { x with gapMark := true }) := by
  rw [State.tryGapProbe, findFirst_some s.gap_iff h hlow]
  rfl

theorem State.tryGapProbe_none (h : ∀ n, ¬ s.gap n) : s.tryGapProbe = none := by
  rw [State.tryGapProbe, findFirst_none s.gap_iff h]
  rfl

theorem State.trySlot_some {k : SlotIx} {op : LinkOp} (h : s.yields k) (hlow : ∀ j < k, ¬ s.yields j)
    (hop : (if (s.node s.slots[k].node).serviceClass = .cyclic then LinkOp.cyclic else .ident) = op) :
    s.trySlot = some ((s.modEngine fun g => { g with cursor := k.val + 1 }).startWork .slot op s.slots[k].node) := by
  rw [State.trySlot, State.searchSlot, findFirst_some s.yields_iff h hlow, ← hop]
  rfl

theorem State.trySlot_none (h : ∀ k, ¬ s.yields k) : s.trySlot = none := by
  rw [State.trySlot, State.searchSlot, findFirst_none s.yields_iff h]
  rfl

theorem State.txnAdmitted_iff (s : State) : s.txnAdmitted = true ↔
    s.engine.linkMode = .txnFirst ∨ (s.engine.linkMode = .interleave ∧ s.link.prev = .slot) := by
  simp [State.txnAdmitted]

theorem State.tryTxn_absent (h : s.order = []) : s.tryTxn = .absent := by
  rw [State.tryTxn, h]

theorem State.tryTxn_cyclic {e : TxnIx} {rest : List TxnIx} (h : s.order = e :: rest)
    (hc : (s.node (s.txn e).nodeIx).serviceClass = .cyclic) : s.tryTxn = .handed
      ((({ s with order := rest } : State).modTxn e fun u => { u with state := .active }).startWork
        (.txn (s.handle e)) (opOf (s.txn e).op) (s.txn e).nodeIx) := by
  rw [State.tryTxn, h]
  exact if_pos hc

theorem State.tryTxn_other {e : TxnIx} {rest : List TxnIx} (h : s.order = e :: rest)
    (hc : ¬ (s.node (s.txn e).nodeIx).serviceClass = .cyclic) :
    s.tryTxn = .unavailable (({ s with order := rest } : State).failUnavailable e) := by
  rw [State.tryTxn, h]
  exact if_neg hc

/-! ## The orders -/

theorem State.choose_urgent (hs : s.engine.state ≠ .draining) (h : s.tryUrgentFirst = some t) : s.choose = t := by
  cases he : s.engine.state with
  | draining => exact absurd he hs
  | stopped => simp only [State.choose, he, State.chooseGap, h]
  | waiting => simp only [State.choose, he, State.chooseGap, h]
  | cycling => simp only [State.choose, he, State.chooseCycling, h]

/-- The choice in CYCLING past a held urgent refresh (R90). -/
theorem State.choose_cycling (hs : s.engine.state = .cycling) (hheld : s.held) : s.choose =
    match (if s.txnAdmitted then s.tryTxn else .absent) with
    | .handed t => t
    | .unavailable t => State.chooseCycling s.order.length t
    | .absent => s.trySlot.getD (State.chooseGap (s.endCycle.order.length + 1) s.endCycle) := by
  simp only [State.choose, hs, State.chooseCycling, State.tryUrgentFirst_held hheld] <;> rfl

/-- The engine is STOPPED, or WAITING with no gap probe to make (R91). -/
def State.resting (s : State) : Prop := s.engine.state = .stopped ∨ (s.engine.state = .waiting ∧ ∀ n, ¬ s.gap n)

/-- The choice at rest past a held urgent refresh (R91). -/
theorem State.choose_resting (hs : s.resting) (hheld : s.held) : s.choose =
    match s.tryTxn with
    | .handed t => t
    | .unavailable t => State.chooseGap s.order.length t
    | .absent => s.tryUrgent.getD s := by
  obtain hs | ⟨hs, hgap⟩ := hs
  · simp only [State.choose, hs, State.chooseGap, State.tryUrgentFirst_held hheld, reduceCtorEq, if_false] <;> rfl
  · simp only [State.choose, hs, State.chooseGap, State.tryUrgentFirst_held hheld, if_true, State.tryGapProbe_none hgap]
      <;> rfl

theorem State.choose_gap {n : NodeIx} (hs : s.engine.state = .waiting) (hheld : s.held) (h : s.gap n)
    (hlow : ∀ m < n, ¬ s.gap m) :
    s.choose = (s.startWork .gapProbe .ident n).modNode n fun x => { x with gapMark := true } := by
  simp only [State.choose, hs, State.chooseGap, State.tryUrgentFirst_held hheld, if_true, State.tryGapProbe_some h hlow]

theorem State.startWork_eq (s : State) (c : WorkClass) (op : LinkOp) (n : NodeIx) : s.startWork c op n =
    State.withExchange { s with link := { s.link with prev := c.prev } } (s.newWork c op n)
      (s.latch c op n ((s.node n).newToggle op)) := by
  rw [State.startWork, State.handOver_eq]
  rfl

theorem State.failUnavailable_eq (s : State) (e : TxnIx) : s.failUnavailable e = State.emit { s with
    txns := s.txns.set e { s.txn e with
      state := .failed, result := some .nodeUnavailable, attempts := 0, replyStatus := 0
      rdata := Vector.replicate 8 0, cancelMark := false } } .txnEnd (s.txn e).node (s.handle e) 6 := by
  unfold State.failUnavailable State.emitTxnEnd State.handle
  simp only [State.modTxn_txn_same]
  rfl

/-- What an entry's exchange latches, its activation does not touch. -/
theorem State.latch_activated (s : State) (e : TxnIx) (rest : List TxnIx) (op : LinkOp) (n : NodeIx) (toggle : Bool) :
    (({ s with order := rest } : State).modTxn e fun u => { u with state := .active }).latch (.txn (s.handle e)) op n toggle =
      s.latch (.txn (s.handle e)) op n toggle := by
  cases op <;> simp [State.latch, State.requestPayload, State.replyLength, State.handle, State.profileOf, State.node,
    State.modTxn, State.setTxn, State.txn]

/-- The gap-probe mark set with the hand-over or before it. -/
theorem State.startWork_marked (s : State) (n : NodeIx) :
    (s.startWork .gapProbe .ident n).modNode n (fun x => { x with gapMark := true }) =
      State.withExchange { s with
          nodes := s.nodes.set n { s.node n with gapMark := true }, link := { s.link with prev := .gapProbe } }
        (s.newWork .gapProbe .ident n) (s.latch .gapProbe .ident n false) := by
  let u : State := { s with link := { s.link with prev := .gapProbe } }
  let mark (x : Node) : Node := { x with gapMark := true }
  let clear (x : Node) : Node := { x with due := x.due && LinkOp.ident != .cyclic }
  have hswap : (u.modNode n clear).modNode n mark = (u.modNode n mark).modNode n clear := by
    rw [State.modNode_modNode, State.modNode_modNode]
  rw [State.startWork_eq]
  exact congrArg (fun v : State => { v with link := { v.link with
    work := some (s.newWork .gapProbe .ident n), sckMode := (s.latch .gapProbe .ident n false).profile.mode } }) hswap

/-- A request that cannot be served ends, and the choice is made from there (R94, R137). -/
theorem State.choose_unavailable {e : TxnIx} {rest : List TxnIx} (hheld : s.held)
    (hs : (s.engine.state = .cycling ∧ s.txnAdmitted = true) ∨ s.resting) (horder : s.order = e :: rest)
    (hc : ¬ (s.node (s.txn e).nodeIx).serviceClass = .cyclic) :
    s.choose = (({ s with order := rest } : State).failUnavailable e).choose := by
  let t := ({ s with order := rest } : State).failUnavailable e
  have hengine : t.engine = s.engine := by
    show State.engine (State.failUnavailable _ e) = _
    rw [State.failUnavailable_eq, State.emit_engine]
  have hlength : s.order.length = t.order.length + 1 := by
    show _ = (State.order (State.failUnavailable _ e)).length + 1
    rw [State.failUnavailable_eq, State.emit_order, horder]
    rfl
  obtain ⟨hs, hadm⟩ | hs := hs
  · rw [State.choose_cycling hs hheld, if_pos hadm, State.tryTxn_other horder hc, hlength]
    simp only [State.choose, show t.engine.state = .cycling by rw [hengine, hs], t]
  · rw [State.choose_resting hs hheld, State.tryTxn_other horder hc, hlength]
    obtain hs | ⟨hs, -⟩ := hs
    · simp only [State.choose, show t.engine.state = .stopped by rw [hengine, hs], t]
    · simp only [State.choose, show t.engine.state = .waiting by rw [hengine, hs], t]

/-- Settles O21: in each order the first class with work is the one handed over, and a request of a node that cannot be served
ends and the choice is made again. -/
theorem choiceFollowsOrder : Obligations.ChoiceFollowsOrder := by
  intro s _ cyclic probe due scheduled gap slot held admitted resting handed handedTxn handedSlot
  have hclass (n : NodeIx) : (s.node n).serviceClass = .cyclic ↔ cyclic n := Node.cyclic_iff _
  have handed_start {c : WorkClass} {op : LinkOp} {n : NodeIx} (h : s.choose = s.startWork c op n) :
      handed s c.prev c op n := by
    show s.choose = _
    rw [h, State.startWork_eq]
    rfl
  have handed_txn {e : TxnIx} {rest : List TxnIx} (h : s.choose =
      (({ s with order := rest } : State).modTxn e fun u => { u with state := .active }).startWork
        (.txn (s.handle e)) (opOf (s.txn e).op) (s.txn e).nodeIx) : handedTxn e rest := by
    show s.choose = _
    rw [h, State.startWork_eq, State.newWork, State.latch_activated]
    rfl
  have handed_slot {k : SlotIx} {op : LinkOp} (h : s.choose =
      (s.modEngine fun g => { g with cursor := k.val + 1 }).startWork .slot op s.slots[k].node) : handedSlot k op := by
    show s.choose = _
    rw [h, State.startWork_eq]
    rfl
  have chosen_slot {k : SlotIx} {op : LinkOp} (hs : s.engine.state = .cycling) (hheld : held)
      (hno : ¬ admitted ∨ s.order = []) (hk : slot k) (hlow : ∀ j < k, ¬ slot j)
      (hop : (if (s.node s.slots[k].node).serviceClass = .cyclic then LinkOp.cyclic else .ident) = op) : handedSlot k op := by
    have habsent : (if s.txnAdmitted = true then s.tryTxn else .absent) = .absent := by
      split
      · next hadm => exact State.tryTxn_absent (hno.resolve_left (not_not_intro ((s.txnAdmitted_iff).1 hadm)))
      · rfl
    refine handed_slot ?_
    rw [State.choose_cycling hs hheld, habsent, State.trySlot_some hk hlow hop]
    rfl
  refine ⟨fun h => ?_, fun n hs hprev hn hlow => ?_, fun e rest hs hheld hadm horder hc => ?_,
    fun k hs hheld hno hk hlow => ⟨fun hc => ?_, fun hp => ?_⟩, fun n hs hheld hn hlow => ?_,
    fun e rest hs hheld horder hc => ?_, fun e rest hheld hs horder hc => ?_, fun n hs hheld hnil hn hlow => ?_,
    fun hs hnil hnone => ?_⟩
  · rw [State.choose, h]
  · refine handed_start (c := .urgent) (State.choose_urgent hs ?_)
    rw [State.tryUrgentFirst, if_neg hprev, State.tryUrgent_some hn hlow]
  · refine handed_txn ?_
    rw [State.choose_cycling hs hheld, if_pos ((s.txnAdmitted_iff).2 hadm), State.tryTxn_cyclic horder ((hclass _).2 hc)]
  · exact chosen_slot hs hheld hno hk hlow (if_pos ((hclass _).2 hc))
  · have hprobe : (s.node s.slots[k].node).serviceClass = .probe := (Node.probe_iff _).2 hp
    exact chosen_slot hs hheld hno hk hlow (if_neg (by rw [hprobe]; decide))
  · show s.choose = _
    rw [State.choose_gap hs hheld hn hlow, State.startWork_marked]
    rfl
  · refine handed_txn ?_
    rw [State.choose_resting hs hheld, State.tryTxn_cyclic horder ((hclass _).2 hc)]
  · rw [State.choose_unavailable hheld (hs.imp_left fun h => ⟨h.1, (s.txnAdmitted_iff).2 h.2⟩) horder
      (fun h => hc ((hclass _).1 h)), State.failUnavailable_eq]
    rfl
  · refine handed_start (c := .urgent) ?_
    rw [State.choose_resting hs hheld, State.tryTxn_absent hnil, State.tryUrgent_some hn hlow]
    rfl
  · rw [State.choose_resting hs (.inr hnone), State.tryTxn_absent hnil, State.tryUrgent_none hnone]
    rfl

/-! ## The end of a cycle -/

/-- The end of a cycle, with its report and the dropped starts it reports (R77). -/
theorem State.endCycle_eq (s : State) :
    let done := s.emit .cycleDone 0xFF (BitVec.ofNat 8 s.engine.evaluated) (BitVec.ofNat 8 s.engine.failed)
    let reported := if 0 < s.engine.dropped
      then done.emit .cycleOverrun 0xFF (BitVec.ofNat 8 s.engine.dropped) 0 else done
    s.endCycle = { reported with
      engine := { s.engine with
        state := .waiting, cursor := s.engine.latchedLen, evaluated := 0, failed := 0, dropped := 0 }
      nodes := tabMap (fun x => { x with gapMark := false }) s.nodes } := by
  intro done reported
  unfold State.endCycle State.reportDropped
  simp only [State.emit_eq, done, reported]
  by_cases h : 0 < s.engine.dropped
  · simp only [State.modEngine, h, if_true]
    rfl
  · simp only [State.modEngine, h, if_false]
    rfl

/-- Settles O22: each class in turn has no work, so the search ends the cycle and the choice is the one made in WAITING. -/
theorem cycleEndReportsAndWaits : Obligations.CycleEndReportsAndWaits := by
  intro s hs hurgent htxn hslot done reported
  have hheld : s.held := hurgent.imp_right fun h n hn => by
    obtain ⟨hon, hsus⟩ := h n hn.1
    exact hn.2.elim hon hsus
  have habsent : (if s.txnAdmitted = true then s.tryTxn else .absent) = .absent := by
    split
    · next hadm =>
      obtain h | h | ⟨h, hprev⟩ := htxn
      · exact State.tryTxn_absent h
      · simp [State.txnAdmitted, h] at hadm
      · simp [State.txnAdmitted, h, hprev] at hadm
    · rfl
  have hnone : s.trySlot = none := State.trySlot_none fun k ⟨hlo, hhi, hen, hphase, hserved⟩ => by
    obtain h | h | ⟨h, hcount⟩ := hslot k hlo hhi hen hphase <;> simp_all
  have hwaiting : s.endCycle.engine.state = .waiting := by rw [State.endCycle_eq]
  have hgo : State.chooseGap (s.endCycle.order.length + 1) s.endCycle = s.endCycle.choose := by
    simp only [State.choose, hwaiting]
  rw [State.choose_cycling hs hheld, habsent, hnone]
  show State.chooseGap _ s.endCycle = _
  rw [hgo, State.endCycle_eq]

end Sys2Proof.Machine
end

section
/-! SUPPORT. The evaluation of an outcome as one update of its node with the events it produces, in their order: the store and
its detections, the outcome of a CYCLIC work item and of a probe; with the statement about the store. -/

namespace Sys2Proof.Machine

variable {s t u : State} {n : NodeIx}

/-! ## An update of one node with its events -/

/-- From `s` to `t` the node `n` becomes `y` and the events `es` are produced; nothing else happens. -/
def State.Does (n : NodeIx) (s : State) (y : Node) (es : List Event) (t : State) : Prop :=
  t = (s.modNode n fun _ => y).emits es

theorem State.does_modNode (s : State) (n : NodeIx) (f : Node → Node) : State.Does n s (f (s.node n)) [] (s.modNode n f) := rfl

theorem State.does_refl (s : State) (n : NodeIx) : State.Does n s (s.node n) [] s :=
  (s.modNode_same n (fun _ => s.node n) rfl).symm

theorem State.Does.node {y : Node} {es : List Event} (h : State.Does n s y es t) : t.node n = y := by
  rw [h, State.emits_node, State.modNode_node_same]

theorem State.Does.engine {y : Node} {es : List Event} (h : State.Does n s y es t) : t.engine = s.engine := by
  rw [h, State.emits_engine, State.modNode_engine]

theorem State.Does.trans {y z : Node} {es fs : List Event} (h : State.Does n s y es t) (k : State.Does n t z fs u) :
    State.Does n s z (es ++ fs) u := by
  rw [State.Does] at h k ⊢
  rw [k, h, State.emits_modNode, State.modNode_modNode, ← State.emits_append]

theorem State.does_enterState (s : State) (n : NodeIx) (x : NodeState) :
    State.Does n s { s.node n with state := x } (stateEvents n (s.node n).state x) (s.enterState n x) := s.enterState_eq n x

/-- An update of the node before it enters another state. -/
theorem State.does_update_enterState (s : State) (n : NodeIx) (f : Node → Node) (x : NodeState) :
    State.Does n s { f (s.node n) with state := x } (stateEvents n (f (s.node n)).state x) ((s.modNode n f).enterState n x) := by
  have h := (s.does_modNode n f).trans ((s.modNode n f).does_enterState n x)
  rwa [State.modNode_node_same] at h

/-! ## The bytes that moved -/

theorem bitAt_getLsbD : ∀ (b : Bool) (k i : Fin 8), (bitAt b k.val).getLsbD i.val = (b && decide (i = k)) := by decide

theorem changedMask_getLsbD (old new rise fall : Vector Byte 8) (i : ByteIx) :
    (changedMask old new rise fall).getLsbD i.val = byteChanged old[i] new[i] rise[i] fall[i] := by
  have hbit (b : Bool) (k : ByteIx) : (bitAt b k.val).getLsbD i.val = (b && decide (i = k)) := bitAt_getLsbD b k i
  simp only [changedMask, BitVec.getLsbD_or, hbit]
  fin_cases i <;> simp

theorem BitVec.ne_zero_iff_bit (b : Byte) : (b != 0) = true ↔ ∃ k : Fin 8, b.getLsbD k.val = true := by
  rw [bne_iff_ne]
  constructor
  · intro hne
    by_contra hnone
    push Not at hnone
    refine hne (BitVec.eq_of_getLsbD_eq fun i hi => ?_)
    simpa using hnone ⟨i, hi⟩
  · rintro ⟨k, hk⟩ rfl
    simp at hk

/-- A byte moved where one of its bits rose under the rise mask or fell under the fall mask (R119). -/
theorem byteChanged_iff (old new rise fall : Byte) : byteChanged old new rise fall = true ↔ ∃ k : Fin 8,
    (old.getLsbD k.val = false ∧ new.getLsbD k.val = true ∧ rise.getLsbD k.val = true) ∨
    (old.getLsbD k.val = true ∧ new.getLsbD k.val = false ∧ fall.getLsbD k.val = true) := by
  rw [byteChanged, BitVec.ne_zero_iff_bit]
  refine exists_congr fun k => ?_
  have hk : k.val < 8 := k.isLt
  simp [and_assoc]

/-- The mask of the bytes that moved is the one whose bits say so (R119). -/
theorem changedMask_eq {old new rise fall : Vector Byte 8} {changed : Byte}
    (h : ∀ i : ByteIx, changed.getLsbD i.val = true ↔ ∃ k : Fin 8,
      (old[i].getLsbD k.val = false ∧ new[i].getLsbD k.val = true ∧ rise[i].getLsbD k.val = true) ∨
      (old[i].getLsbD k.val = true ∧ new[i].getLsbD k.val = false ∧ fall[i].getLsbD k.val = true)) :
    changedMask old new rise fall = changed := by
  refine BitVec.eq_of_getLsbD_eq fun i hi => ?_
  have hmask := changedMask_getLsbD old new rise fall ⟨i, hi⟩
  rw [Bool.eq_iff_iff, hmask, byteChanged_iff, h ⟨i, hi⟩]

/-! ## The match word -/

/-- The match word agrees where both its bytes do (R122). -/
theorem Node.wordMatches_eq (x : Node) (image : Vector Byte 8) : x.wordMatches image =
    (image[0] &&& x.matchMaskHi == x.matchValueHi &&& x.matchMaskHi &&
      image[1] &&& x.matchMaskLo == x.matchValueLo &&& x.matchMaskLo) := by
  have hbytes (a b c d : Byte) : joinBytes a b = joinBytes c d ↔ a = c ∧ b = d := by
    simp only [BitVec.toNat_inj.symm, joinBytes_toNat]
    omega
  have hand (a b c d : Byte) : joinBytes a b &&& joinBytes c d = joinBytes (a &&& c) (b &&& d) := BitVec.and_append
  rw [Bool.eq_iff_iff, Node.wordMatches, matchWord, Node.matchValue, Node.matchMask, Bool.and_eq_true, beq_iff_eq, beq_iff_eq,
    beq_iff_eq, ← hbytes, hand, hand]

/-! ## The store -/

/-- The INPUT_CHANGE event of a store, if it has one (R118, R120, R121). -/
def changeEvents (n : NodeIx) (x : Node) (changed : Byte) : List Event :=
  if x.baseline = true ∨ changed = 0 then [] else [(.inputChange, BitVec.ofNat 8 n.val, changed, 1)]

/-- The MATCH event of a store, if it has one (R122, R123). -/
def matchEvents (n : NodeIx) (x : Node) (agrees : Bool) (b : Byte) : List Event :=
  if x.options.getLsbD 1 && agrees && !x.matchState then [(.matchEvent, BitVec.ofNat 8 n.val, 1, b)]
  else if x.options.getLsbD 1 && x.options.getLsbD 2 && x.matchState && !agrees then
    [(.matchEvent, BitVec.ofNat 8 n.val, 0, b)]
  else []

theorem State.does_detectChange (s : State) (n : NodeIx) (old : Vector Byte 8) :
    State.Does n s { s.node n with baseline := false }
      (changeEvents n (s.node n) (changedMask old (s.node n).input (s.node n).rise (s.node n).fall)) (s.detectChange n old) := by
  unfold State.Does State.detectChange changeEvents
  by_cases hb : (s.node n).baseline = true
  · simp only [hb, if_true, true_or, State.emits_nil]
    rfl
  · have hsame : s.modNode n (fun _ => { s.node n with baseline := false }) = s := by
      refine s.modNode_same n _ ?_
      rw [← Bool.not_eq_true _ |>.mp hb]
    simp only [hb, Bool.false_eq_true, if_false, false_or, hsame]
    split <;> rfl

theorem State.does_detectMatch (s : State) (n : NodeIx) :
    State.Does n s
      { s.node n with matchState := (s.node n).options.getLsbD 1 && (s.node n).wordMatches (s.node n).input }
      (matchEvents n (s.node n) ((s.node n).wordMatches (s.node n).input) (s.node n).input[0]) (s.detectMatch n) := by
  unfold State.Does State.detectMatch matchEvents matchReported
  dsimp only [Node.matchEnable, Node.matchBoth]
  by_cases hen : (s.node n).options.getLsbD 1 = true
  · rcases Bool.eq_false_or_eq_true ((s.node n).wordMatches (s.node n).input) with hnow | hnow <;>
      rcases Bool.eq_false_or_eq_true (s.node n).matchState with hbefore | hbefore <;>
      rcases Bool.eq_false_or_eq_true ((s.node n).options.getLsbD 2) with hboth | hboth <;>
      simp only [hen, hnow, hbefore, hboth] <;> rfl
  · simp only [hen, Bool.false_eq_true, if_false, Bool.false_and, State.emits_nil]
    rfl

/-- A node after the store of an image (R108, R118). -/
def Node.stored (x : Node) (image : Vector Byte 8) : Node :=
  { x with input := image, baseline := false, matchState := x.options.getLsbD 1 && x.wordMatches image }

/-- The events of a store (R118). -/
def storeEvents (n : NodeIx) (x : Node) (image : Vector Byte 8) : List Event :=
  changeEvents n x (changedMask x.input image x.rise x.fall) ++ matchEvents n x (x.wordMatches image) image[0]

theorem State.does_storeInput (s : State) (n : NodeIx) (payload : List Byte) :
    State.Does n s ((s.node n).stored (imageOf payload)) (storeEvents n (s.node n) (imageOf payload))
      (s.storeInput n payload) := by
  have hin := s.does_modNode n fun y => { y with input := imageOf payload }
  have hchange := hin.trans ((s.modNode n fun y => { y with input := imageOf payload }).does_detectChange n (s.node n).input)
  have hstore := hchange.trans (State.does_detectMatch _ n)
  rw [hchange.node, hin.node] at hstore
  exact hstore

/-- Settles O23: the bytes that moved and the match word decide which of the two events the store produces. -/
theorem storeDetectsChanges : Obligations.StoreDetectsChanges := by
  intro s n payload changed x image hchanged enabled agrees became left stored noted
  have hmask : changedMask x.input image x.rise x.fall = changed := changedMask_eq hchanged
  have hmatch : x.wordMatches image = agrees := x.wordMatches_eq image
  have hstore : s.storeInput n payload =
      (s.modNode n fun _ => x.stored image).emits (storeEvents n x image) := s.does_storeInput n payload
  have hstored : s.modNode n (fun _ => x.stored image) = stored := by
    unfold Node.stored
    rw [hmatch]
    rfl
  rw [hstore, hstored, storeEvents, hmask, hmatch, State.emits_append]
  have hnoted : stored.emits (changeEvents n x changed) = noted := by
    unfold changeEvents
    show _ = if x.baseline = true ∨ changed = 0 then stored else _
    split <;> rfl
  rw [hnoted]
  unfold matchEvents
  show _ = if became = true then _ else if left = true then _ else noted
  by_cases hb : became = true
  · rw [if_pos hb, if_pos hb]
    rfl
  · rw [if_neg hb, if_neg hb]
    by_cases hl : left = true
    · rw [if_pos hl, if_pos hl]
      rfl
    · rw [if_neg hl, if_neg hl]
      rfl

end Sys2Proof.Machine
end

section
/-! SUPPORT. The end of a work item as one update with its events: the owner's evaluation of the final outcome, the node command
that waited and the end of DRAINING (R86); with the statements about the three kinds of work. -/

namespace Sys2Proof.Machine

variable {s t u : State} {n : NodeIx}

/-! ## CMD_STATUS -/

/-- CMD_STATUS after the completion of a pending command (R28). -/
def CmdRegs.completed (c : CmdRegs) (who : Awaited) : CmdRegs :=
  if c.awaited = some who then { c with status := .ok, awaited := none } else c

theorem State.completePending_eq (s : State) (who : Awaited) :
    s.completePending who = { s with cmd := s.cmd.completed who } := by
  unfold State.completePending CmdRegs.completed
  split <;> rfl

/-- Events first and a completion after them, or the other way round. -/
theorem State.emits_completePending (s : State) (es : List Event) (who : Awaited) :
    (s.emits es).completePending who = (s.completePending who).emits es := by
  rw [State.completePending_eq, State.completePending_eq, State.emits_cmd, State.emits_eq es s,
    State.emits_eq es { s with cmd := s.cmd.completed who },
    State.emits_evq_congr es { s with cmd := s.cmd.completed who } s rfl rfl]

/-- Of two completions the second finds nothing to complete where the first did (R28). -/
theorem CmdRegs.completed_completed (c : CmdRegs) (commanded drained : Prop) [Decidable commanded] [Decidable drained] :
    let c' := if commanded then c.completed .nodeCommand else c
    (if drained then c'.completed .stopScan else c') =
      if (commanded ∧ c.awaited = some .nodeCommand) ∨ (drained ∧ c.awaited = some .stopScan) then
        { c with status := .ok, awaited := none }
      else c := by
  intro c'
  by_cases hc : commanded
  · by_cases hn : c.awaited = some .nodeCommand
    · have hfirst : c' = { c with status := .ok, awaited := none } := by simp only [c', CmdRegs.completed, if_pos hc, if_pos hn]
      have hsome : (commanded ∧ c.awaited = some .nodeCommand) ∨ (drained ∧ c.awaited = some .stopScan) := Or.inl ⟨hc, hn⟩
      rw [if_pos hsome, hfirst]
      simp [CmdRegs.completed]
    · have hfirst : c' = c := by simp only [c', CmdRegs.completed, if_neg hn, ite_self]
      simp only [hfirst, hn, and_false, false_or, CmdRegs.completed, ite_and]
  · have hfirst : c' = c := if_neg hc
    simp only [hfirst, hc, false_and, false_or, CmdRegs.completed, ite_and]

/-! ## The node command and the end of DRAINING -/

/-- The node command that waited takes its effect on the node, with its event, and completes (R32, R34). -/
theorem State.completeNodeCmd_emits (s : State) (es : List Event) (w : WorkItem) :
    (s.emits es).completeNodeCmd w =
      State.emits { s.modNode w.node fun x => x.afterCommand w.nodeCmd with
        cmd := if w.nodeCmd ≠ none then s.cmd.completed .nodeCommand else s.cmd }
        (es ++ stateEvents w.node (s.node w.node).state ((s.node w.node).afterCommand w.nodeCmd).state) := by
  have hcommand (c : NodeCmd) : ((((s.emits es).modNode w.node fun x => x.afterCommand (some c)).emits
      (stateEvents w.node (s.node w.node).state ((s.node w.node).afterCommand (some c)).state)).completePending .nodeCommand) =
      State.emits { s.modNode w.node fun x => x.afterCommand (some c) with cmd := s.cmd.completed .nodeCommand }
        (es ++ stateEvents w.node (s.node w.node).state ((s.node w.node).afterCommand (some c)).state) := by
    rw [State.emits_completePending, State.emits_modNode, State.emits_completePending, ← State.emits_append,
      State.completePending_eq]
    rfl
  unfold State.completeNodeCmd
  cases hc : w.nodeCmd with
  | none =>
    have hself : s.modNode w.node (fun x => x.afterCommand none) = s := s.modNode_same _ _ rfl
    rw [if_neg (not_not_intro rfl), show (s.node w.node).afterCommand none = s.node w.node from rfl, stateEvents_self, List.append_nil]
    exact (congrArg (fun u : State => State.emits { u with cmd := s.cmd } es) hself).symm
  | some c =>
    cases c with
    | disable =>
      simp only [State.disableNode_eq, State.emits_node, ne_eq, reduceCtorEq, not_false_eq_true, if_true]
      exact hcommand .disable
    | reprobe =>
      simp only [State.reprobeNode_eq, State.emits_node, ne_eq, reduceCtorEq, not_false_eq_true, if_true]
      exact hcommand .reprobe

/-- The events of the end of DRAINING (R80). -/
def stopEvents (dropped : Nat) : List Event :=
  (if 0 < dropped then [(.cycleOverrun, 0xFF, BitVec.ofNat 8 dropped, 0)] else []) ++ [(.scanState, 0xFF, 0, 2)]

theorem State.stopIfDraining_emits (s : State) (es : List Event) :
    (s.emits es).stopIfDraining =
      if s.engine.state = .draining then
        State.emits { s with
          engine := { s.engine with state := .stopped, timer := none, evaluated := 0, failed := 0, dropped := 0 }
          cmd := s.cmd.completed .stopScan } (es ++ stopEvents s.engine.dropped)
      else s.emits es := by
  unfold State.stopIfDraining
  rw [State.emits_engine]
  split
  · let stop (g : Engine) : Engine := { g.clearCounts with timer := none, state := .stopped }
    have hstop : (s.emits es).enterStopped = (s.modEngine stop).emits (es ++ stopEvents s.engine.dropped) := by
      rw [State.enterStopped_eq, State.emits_engine]
      show ((s.emits es).modEngine stop).emits (stopEvents s.engine.dropped) = _
      rw [s.emits_modEngine es stop fun _ => rfl, State.emits_append]
    rw [hstop, State.emits_completePending, State.completePending_eq]
    rfl
  · rfl

/-- A state may take another Link Controller before its events or after them. -/
theorem State.emits_link_update (s : State) (l : Link) (es : List Event) :
    ({ s with link := l } : State).emits es = { s.emits es with link := l } := by
  rw [State.emits_eq es s, State.emits_eq es { s with link := l }, State.emits_evq_congr es { s with link := l } s rfl rfl]

/-- The end of a work item, its owner's evaluation being an update of its node and the engine with its events: that is the
boundary of R86, with whatever the Link Controller is left as. -/
theorem State.finishWork_eq {v : State} {w : WorkItem} {r : Completion} {x : Node} {g : Engine} {es : List Event} {l : Link}
    (howner : (v.modLink fun l => { l with work := none }).ownerEvaluates w.cls r =
      State.emits { s with link := l, nodes := s.nodes.set w.node x, engine := g } es) (hstate : g.state = s.engine.state) :
    v.finishWork w r = { s.atBoundary w x g es with link := l } := by
  have hnode : State.node { s with link := l, nodes := s.nodes.set w.node x, engine := g } w.node = x :=
    s.setNode_node_same w.node x
  have hset : (s.nodes.set w.node x).set w.node (x.afterCommand w.nodeCmd) = s.nodes.set w.node (x.afterCommand w.nodeCmd) := by
    simp
  rw [State.finishWork, howner, State.completeNodeCmd_emits, State.stopIfDraining_emits, State.atBoundary,
    ← State.emits_link_update, hnode]
  simp only [← CmdRegs.completed_completed s.cmd (w.nodeCmd ≠ none) (s.engine.state = .draining)]
  simp only [State.modNode, State.setNode, hnode, hset, hstate]
  by_cases hd : s.engine.state = .draining
  · simp only [if_pos hd]
    rfl
  · simp only [if_neg hd, List.append_nil]

/-! ## The evaluation of an outcome -/

/-- A node with an outcome recorded and its alert level compared (R42, R43). -/
def Node.noted (x : Node) (r : Completion) : Node :=
  { x with
    lastOutcome := some r.outcome, lastStatus := r.status.getD x.lastStatus
    alert := (r.status.map fun st => st.getLsbD 4).getD x.alert }

theorem State.does_record (s : State) (n : NodeIx) (r : Completion) :
    State.Does n s ((s.node n).noted r) (alertEvents n (s.node n).alert r.status)
      ((s.recordOutcome n r).compareAlert n r) := by
  have hrecord : State.Does n s { s.node n with lastOutcome := some r.outcome, lastStatus := r.status.getD (s.node n).lastStatus } []
      (s.recordOutcome n r) := rfl
  have hcompare : State.Does n (s.recordOutcome n r)
      { (s.recordOutcome n r).node n with
        alert := (r.status.map fun st => st.getLsbD 4).getD ((s.recordOutcome n r).node n).alert }
      (alertEvents n ((s.recordOutcome n r).node n).alert r.status) ((s.recordOutcome n r).compareAlert n r) :=
    State.compareAlert_eq _ n r
  have h := hrecord.trans hcompare
  rw [hrecord.node] at h
  exact h

/-- An OK work item brings a CYCLIC node to ONLINE (R44). -/
theorem State.does_cyclicOk (s : State) (n : NodeIx) (h : (s.node n).state = .online ∨ (s.node n).state = .suspect) :
    State.Does n s { s.node n with inputAge := 0, failCount := 0, state := .online }
      (stateEvents n (s.node n).state .online) (s.cyclicOk n) := by
  let v : State := s.modNode n fun x => { x with inputAge := 0, failCount := 0 }
  have hv : State.Does n s { s.node n with inputAge := 0, failCount := 0 } [] v := rfl
  have hdef : s.cyclicOk n = if (v.node n).state = .suspect then v.enterState n .online else v := rfl
  rw [hdef, hv.node]
  obtain h | h := h
  · rw [if_neg (by simp [h]), h, stateEvents_self, ← h]
    exact hv
  · rw [if_pos h]
    exact s.does_update_enterState n _ .online

/-- A failure counts up to 15 (R45, R51). -/
theorem succUpTo_eq_min {k : Nat} (h : k ≤ 15) : succUpTo 15 k = min 15 (k + 1) := by
  unfold succUpTo
  split <;> omega

/-- A node after a failure: OFFLINE at the threshold, or again, and else as it was or SUSPECT (R45 to R47, R51). -/
def Node.failed (x : Node) (g : Engine) (op : LinkOp) : Node :=
  if x.state = .offline ∨ g.offlineThreshold.toNat ≤ min 15 (x.failCount + 1) then
    { x with
      state := .offline, failCount := min 15 (x.failCount + 1), reprobe := g.reprobeInterval.toNat, matchState := false }
  else { x with state := if op = .cyclic then .suspect else x.state, failCount := min 15 (x.failCount + 1) }

/-- The failure counted, before what it leads to (R45, R51). -/
def State.counted (s : State) (n : NodeIx) : State := s.modNode n fun x => { x with failCount := succUpTo 15 x.failCount }

theorem State.does_counted (hcount : (s.node n).failCount ≤ 15) :
    State.Does n s { s.node n with failCount := min 15 ((s.node n).failCount + 1) } [] (s.counted n) := by
  rw [← succUpTo_eq_min hcount]
  rfl

theorem State.does_enterOffline (s : State) (n : NodeIx) :
    State.Does n s
      { s.node n with reprobe := s.engine.reprobeInterval.toNat, matchState := false, state := .offline }
      (stateEvents n (s.node n).state .offline) (s.enterOffline n) := s.does_update_enterState n _ .offline

/-- The entry to OFFLINE of a node whose failure has been counted (R47). -/
theorem State.does_counted_enterOffline (hcount : (s.node n).failCount ≤ 15) :
    State.Does n s
      { s.node n with
        state := .offline, failCount := min 15 ((s.node n).failCount + 1), reprobe := s.engine.reprobeInterval.toNat
        matchState := false }
      (stateEvents n (s.node n).state .offline) ((s.counted n).enterOffline n) := by
  have hcounted := State.does_counted hcount
  have h := hcounted.trans ((s.counted n).does_enterOffline n)
  rwa [hcounted.node, hcounted.engine] at h

theorem State.does_cyclicFailed (h : (s.node n).state = .online ∨ (s.node n).state = .suspect)
    (hcount : (s.node n).failCount ≤ 15) :
    State.Does n s ((s.node n).failed s.engine .cyclic) (stateEvents n (s.node n).state ((s.node n).failed s.engine .cyclic).state)
      (s.cyclicFailed n) := by
  have hstay : (s.node n).state ≠ .offline := by obtain h | h := h <;> simp [h]
  have hcounted := State.does_counted hcount
  have hdef : s.cyclicFailed n =
      if (s.counted n).engine.offlineThreshold.toNat ≤ ((s.counted n).node n).failCount ∧
        ((s.counted n).node n).state ≠ .offline then (s.counted n).enterOffline n
      else if ((s.counted n).node n).state = .online then (s.counted n).enterState n .suspect else s.counted n := rfl
  rw [hdef, hcounted.node, hcounted.engine, Node.failed]
  by_cases hlimit : s.engine.offlineThreshold.toNat ≤ min 15 ((s.node n).failCount + 1)
  · rw [if_pos (Or.inr hlimit), if_pos ⟨hlimit, hstay⟩]
    exact State.does_counted_enterOffline hcount
  · rw [if_neg (not_or.2 ⟨hstay, hlimit⟩), if_pos (rfl : LinkOp.cyclic = .cyclic), if_neg (fun hboth => hlimit hboth.1)]
    have hsuspect := hcounted.trans ((s.counted n).does_enterState n .suspect)
    rw [hcounted.node] at hsuspect
    obtain h | h := h
    · rw [if_pos h]
      exact hsuspect
    · rw [if_neg (by simp [h]), h, stateEvents_self, ← h]
      exact hcounted

theorem State.does_probeFailed (hcount : (s.node n).failCount ≤ 15)
    (hmatch : (s.node n).matchState = false) :
    State.Does n s ((s.node n).failed s.engine .ident) (stateEvents n (s.node n).state ((s.node n).failed s.engine .ident).state)
      (s.probeFailed n) := by
  have hcounted := State.does_counted hcount
  have hdef : s.probeFailed n =
      if ((s.counted n).node n).state = .offline then
        (s.counted n).modNode n fun y => { y with reprobe := (s.counted n).engine.reprobeInterval.toNat }
      else if (s.counted n).engine.offlineThreshold.toNat ≤ ((s.counted n).node n).failCount then (s.counted n).enterOffline n
      else s.counted n := rfl
  rw [hdef, hcounted.node, hcounted.engine, Node.failed]
  by_cases hoff : (s.node n).state = .offline
  · rw [if_pos (Or.inl hoff), if_pos hoff, hoff, stateEvents_self]
    have hagain := hcounted.trans ((s.counted n).does_modNode n fun y => { y with reprobe := s.engine.reprobeInterval.toNat })
    rw [hcounted.node] at hagain
    rw [← hoff, ← hmatch]
    exact hagain
  · by_cases hlimit : s.engine.offlineThreshold.toNat ≤ min 15 ((s.node n).failCount + 1)
    · rw [if_pos (Or.inr hlimit), if_neg hoff, if_pos hlimit]
      exact State.does_counted_enterOffline hcount
    · rw [if_neg (not_or.2 ⟨hoff, hlimit⟩), if_neg hoff, if_neg hlimit, if_neg (by decide), stateEvents_self]
      exact hcounted

/-! ## The reported fields -/

theorem saturate4_eq (b : Byte) : saturate4 b = BitVec.ofNat 4 (min 15 b.toNat) := by
  apply BitVec.eq_of_toNat_eq
  unfold saturate4
  split
  · rw [BitVec.extractLsb'_toNat, Nat.shiftRight_zero, BitVec.toNat_ofNat, Nat.min_eq_right (by omega)]
  · rw [Nat.min_eq_left (by omega)]
    rfl

/-- A node with the fields of an IDENT reply (R27). -/
def Node.reported (x : Node) (payload : List Byte) : Node :=
  { x with
    reportedType := payload.getD 0 0, reportedOut := BitVec.ofNat 4 (min 15 (payload.getD 1 0).toNat)
    reportedIn := BitVec.ofNat 4 (min 15 (payload.getD 2 0).toNat) }

theorem State.does_report (s : State) (n : NodeIx) (payload : List Byte) :
    State.Does n s ((s.node n).reported payload) [] (s.report n payload) := by
  unfold Node.reported
  rw [← saturate4_eq, ← saturate4_eq]
  rfl

/-- A node with an IDENT reply that disagrees with its entry (R50, R57). -/
def Node.mismatched (x : Node) : Node := { x with state := .mismatch, matchState := false, inputAge := 255 }

/-- A node after an OK probe (R49, R50). -/
def Node.probed (x : Node) (payload : List Byte) : Node :=
  if x.agrees payload = true then
    { x.reported payload with failCount := 0, reprobe := 0, baseline := true, state := .online }
  else Node.mismatched { x.reported payload with failCount := 0, reprobe := 0 }

theorem State.does_probeOk (s : State) (n : NodeIx) (payload : List Byte) :
    State.Does n s ((s.node n).probed payload) (stateEvents n (s.node n).state ((s.node n).probed payload).state)
      (s.probeOk n payload) := by
  let v : State := (s.report n payload).modNode n fun x => { x with failCount := 0, reprobe := 0 }
  have hreport := s.does_report n payload
  have hv := hreport.trans ((s.report n payload).does_modNode n fun x => { x with failCount := 0, reprobe := 0 })
  have hdef : s.probeOk n payload = if (s.node n).agrees payload = true then
      (v.modNode n fun x => { x with baseline := true }).enterState n .online
      else (v.modNode n fun x => { x with matchState := false, inputAge := 255 }).enterState n .mismatch := rfl
  rw [hreport.node] at hv
  rw [hdef, Node.probed]
  split
  · have h := hv.trans (v.does_update_enterState n (fun x => { x with baseline := true }) .online)
    rw [hv.node] at h
    exact h
  · have h := hv.trans (v.does_update_enterState n (fun x => { x with matchState := false, inputAge := 255 }) .mismatch)
    rw [hv.node] at h
    exact h

/-! ## One evaluation -/

/-- Of the outcomes, OK succeeds, BUSY leaves it at that, and every other one is a failure (R44 to R46). -/
theorem State.evaluateCyclic_eq (s : State) (n : NodeIx) (r : Completion) : s.evaluateCyclic n r =
    if r.outcome = .ok then (s.storeInput n r.payload).cyclicOk n else if r.outcome = .busy then s else s.cyclicFailed n := by
  cases ho : r.outcome <;> simp [State.evaluateCyclic, LinkOutcome.failure, ho]

theorem State.evaluateProbe_eq (s : State) (n : NodeIx) (r : Completion) : s.evaluateProbe n r =
    if r.outcome = .ok then s.probeOk n r.payload else if r.outcome = .busy then s else s.probeFailed n := by
  cases ho : r.outcome <;> simp [State.evaluateProbe, LinkOutcome.failure, ho]

theorem Node.afterLastAttempt_eq (x : Node) (g : Engine) (op : LinkOp) (r : Completion) :
    x.afterLastAttempt g op r = if r.outcome = .busy then x.noted r else (x.noted r).failed g op := rfl

/-- A node after the final outcome of a CYCLIC work item (R41 to R46). -/
def Node.afterCyclic (x : Node) (g : Engine) (r : Completion) : Node :=
  if r.outcome = .ok then { (x.noted r).stored (imageOf r.payload) with inputAge := 0, failCount := 0, state := .online }
  else x.afterLastAttempt g .cyclic r

/-- A node after the final outcome of a probe (R41 to R43, R49 to R52). -/
def Node.afterProbe (x : Node) (g : Engine) (r : Completion) : Node :=
  if r.outcome = .ok then (x.noted r).probed r.payload else x.afterLastAttempt g .ident r

theorem State.does_supervise_cyclic {r : Completion} (hop : r.op = .cyclic)
    (h : (s.node r.node).state = .online ∨ (s.node r.node).state = .suspect) (hcount : (s.node r.node).failCount ≤ 15) :
    State.Does r.node s ((s.node r.node).afterCyclic s.engine r)
      (alertEvents r.node (s.node r.node).alert r.status ++
        (if r.outcome = .ok then storeEvents r.node (s.node r.node) (imageOf r.payload) else []) ++
        stateEvents r.node (s.node r.node).state ((s.node r.node).afterCyclic s.engine r).state) (s.supervise r) := by
  let v : State := (s.recordOutcome r.node r).compareAlert r.node r
  have hrecord : State.Does r.node s ((s.node r.node).noted r) (alertEvents r.node (s.node r.node).alert r.status) v :=
    s.does_record r.node r
  have hdef : s.supervise r = v.evaluateCyclic r.node r := by
    rw [State.supervise]
    simp only [hop]
    rfl
  rw [hdef, State.evaluateCyclic_eq, Node.afterCyclic, Node.afterLastAttempt_eq]
  by_cases hok : r.outcome = .ok
  · simp only [hok, if_true]
    have hstore := hrecord.trans (v.does_storeInput r.node r.payload)
    rw [hrecord.node] at hstore
    have honline := hstore.trans (State.does_cyclicOk _ _ (by rw [hstore.node]; exact h))
    rw [hstore.node] at honline
    exact honline
  · by_cases hbusy : r.outcome = .busy
    · simp only [hbusy, reduceCtorEq, if_false, if_true, List.append_nil]
      have hstate : stateEvents r.node (s.node r.node).state ((s.node r.node).noted r).state = [] := stateEvents_self _ _
      rw [hstate, List.append_nil]
      exact hrecord
    · simp only [hok, hbusy, if_false, List.append_nil]
      have hfailed := hrecord.trans (v.does_cyclicFailed (n := r.node) (by rw [hrecord.node]; exact h)
        (by rw [hrecord.node]; exact hcount))
      rw [hrecord.node, hrecord.engine] at hfailed
      exact hfailed

theorem State.does_supervise_probe {r : Completion} (hop : r.op = .ident) (hcount : (s.node r.node).failCount ≤ 15)
    (hmatch : (s.node r.node).matchState = false) :
    State.Does r.node s ((s.node r.node).afterProbe s.engine r)
      (alertEvents r.node (s.node r.node).alert r.status ++
        stateEvents r.node (s.node r.node).state ((s.node r.node).afterProbe s.engine r).state) (s.supervise r) := by
  let v : State := (s.recordOutcome r.node r).compareAlert r.node r
  have hrecord : State.Does r.node s ((s.node r.node).noted r) (alertEvents r.node (s.node r.node).alert r.status) v :=
    s.does_record r.node r
  have hdef : s.supervise r = v.evaluateProbe r.node r := by
    rw [State.supervise]
    simp only [hop]
    rfl
  rw [hdef, State.evaluateProbe_eq, Node.afterProbe, Node.afterLastAttempt_eq]
  by_cases hok : r.outcome = .ok
  · simp only [hok, if_true]
    have hprobed := hrecord.trans (v.does_probeOk r.node r.payload)
    rw [hrecord.node] at hprobed
    exact hprobed
  · by_cases hbusy : r.outcome = .busy
    · simp only [hbusy, reduceCtorEq, if_false, if_true]
      have hstate : stateEvents r.node (s.node r.node).state ((s.node r.node).noted r).state = [] := stateEvents_self _ _
      rw [hstate, List.append_nil]
      exact hrecord
    · simp only [hok, hbusy, if_false]
      have hfailed := hrecord.trans (v.does_probeFailed (n := r.node) (by rw [hrecord.node]; exact hcount)
        (by rw [hrecord.node]; exact hmatch))
      rw [hrecord.node, hrecord.engine] at hfailed
      exact hfailed

end Sys2Proof.Machine
end

section
/-! SUPPORT. The final outcome of each kind of work, as the boundary it ends at; with the statements about them. -/

namespace Sys2Proof.Machine

variable {s t u v : State} {n : NodeIx} {w : WorkItem} {r : Completion}

/-! ## Work that supervision hears of -/

theorem Engine.counted_slot (g : Engine) (o : LinkOutcome) : g.counted .slot o = g.countSlot o := by
  cases o <;> rfl

/-- Work that is no transaction ends as one update of its node and of the engine's counts (R40, R76). -/
theorem State.finishWork_supervised {old new : Node} {es : List Event} {l : Link} (hcls : ∀ h, w.cls ≠ .txn h)
    (hv : (v.modLink fun l => { l with work := none }) = { s with link := l, nodes := s.nodes.set w.node old })
    (hdoes : State.Does w.node (v.modLink fun l => { l with work := none }) new es
      ((v.modLink fun l => { l with work := none }).supervise r)) :
    v.finishWork w r = { s.atBoundary w new (s.engine.counted w.cls r.outcome) es with link := l } := by
  have hset : (s.nodes.set w.node old).set w.node new = s.nodes.set w.node new := by simp
  have hsupervised : (v.modLink fun l => { l with work := none }).supervise r =
      State.emits { s with link := l, nodes := s.nodes.set w.node new } es := by
    rw [hdoes, hv, State.modNode, State.setNode]
    simp only [hset]
  refine State.finishWork_eq ?_ ?_
  · unfold State.ownerEvaluates
    cases hc : w.cls with
    | txn h => exact absurd hc (hcls h)
    | slot =>
      simp only [hsupervised, Engine.counted_slot]
      exact State.emits_modEngine _ es (fun g => g.countSlot r.outcome) fun _ => rfl
    | urgent => exact hsupervised
    | gapProbe => exact hsupervised
  · cases hc : w.cls <;> rfl

theorem State.atBoundary_link (s : State) (w : WorkItem) (x : Node) (g : Engine) (es : List Event) :
    (s.atBoundary w x g es).link = { s.link with rested := false, work := none } := State.emits_link _ _

/-- A node with the toggle sent, where the outcome is OK (R12). -/
def Node.toggled (x : Node) (r : Completion) : Node := { x with seq := if r.outcome = .ok then r.toggle else x.seq }

theorem State.updateToggle_eq (s : State) (r : Completion) : s.updateToggle r = s.modNode r.node fun x => x.toggled r := by
  unfold State.updateToggle Node.toggled
  by_cases h : r.outcome = .ok
  · simp only [h, if_true]
  · simp only [h, if_false]
    exact (s.modNode_same r.node _ rfl).symm

theorem Node.toggled_failed (x : Node) (h : r.outcome ≠ .ok) : x.toggled r = x := by
  rw [Node.toggled, if_neg h]

/-- The link once the exchange is over and its work item gone (R2, R11). -/
def Link.over (l : Link) : Link := { l with rested := false, work := none }

theorem State.attempted_supervised (hcls : ∀ h, w.cls ≠ .txn h) (hn : r.node = w.node) :
    ((s.attempted w r).modLink fun l => { l with work := none }) =
      { s with link := s.link.over, nodes := s.nodes.set w.node ((s.node w.node).toggled r) } := by
  rw [State.attempted, State.updateToggle_eq, hn]
  cases hc : w.cls with
  | txn h => exact absurd hc (hcls h)
  | _ => rfl

/-- An outcome that is not retried is final (R17, R19, R79). -/
theorem State.completeAttempt_final {x : Exchange} {driven : List Byte} {o : RetryOrder}
    (hfinal : w.suppressed = true ∨ s.engine.retryLimit.toNat < w.attempt ∨
      (x.complete w.attempt driven).outcome = .ok ∨ (x.complete w.attempt driven).outcome = .refused) :
    s.completeAttempt w x driven o =
      ((s.attempted w (x.complete w.attempt driven)).finishWork w (x.complete w.attempt driven)).choose := by
  rw [State.completeAttempt_eq, if_neg]
  rw [State.retries_iff, State.attempted_engine]
  rintro ⟨hok, hrefused, hlimit, hsup, -⟩
  obtain h | h | h | h := hfinal
  · rw [hsup] at h
    cases h
  · omega
  · exact hok h
  · exact hrefused h

theorem opOf_ne_cyclic (b : Byte) : opOf b ≠ .cyclic := by
  unfold opOf
  repeat' split
  all_goals decide

/-- Only supervision's work is CYCLIC (R5, R16). -/
theorem State.ItemOk.not_txn_of_cyclic (h : s.ItemOk w) (hop : w.op = .cyclic) (k : Byte) : w.cls ≠ .txn k := by
  intro hk
  have hcls := h.cls
  rw [State.classAgrees, hk] at hcls
  simp only [Bool.and_eq_true, beq_iff_eq, hop] at hcls
  obtain ⟨⟨⟨⟨⟨-, -⟩, hopOf⟩, -⟩, -⟩, -⟩ := hcls
  exact opOf_ne_cyclic _ hopOf.symm

theorem State.Fits.suits {c : WorkClass} {op : LinkOp} (h : s.Fits c op n) (hc : ∀ k, c ≠ .txn k) :
    op.suits (s.node n).state := by
  cases c with
  | txn k => exact absurd rfl (hc k)
  | slot =>
    obtain ⟨-, hsuits⟩ := h
    exact hsuits
  | urgent => exact h
  | gapProbe => exact h

theorem State.ItemOk.identified (h : s.ItemOk w) (hop : w.op = .cyclic) :
    (s.node w.node).state = .online ∨ (s.node w.node).state = .suspect := by
  obtain ⟨-, hid⟩ | ⟨hident, -⟩ := h.fits.suits (h.not_txn_of_cyclic hop)
  · exact (NodeState.identified_iff _).1 hid
  · rw [hop] at hident
    cases hident

theorem State.ItemOk.probed (h : s.ItemOk w) (hop : w.op = .ident) (hcls : ∀ k, w.cls ≠ .txn k) :
    (s.node w.node).state.probed = true := by
  obtain ⟨hcyclic, -⟩ | ⟨-, hp⟩ := h.fits.suits hcls
  · rw [hop] at hcyclic
    cases hcyclic
  · exact hp

/-- A node that is being probed holds no match (R125). -/
theorem Node.Ok.matchState_of_probed {x : Node} (h : x.Ok) (hp : x.state.probed = true) : x.matchState = false :=
  h.unmatched (by obtain hp | hp := (NodeState.probed_iff _).1 hp <;> rw [hp] <;> rfl)

/-! ## What the choice leaves of a node -/

theorem Node.apart_eq {x y : Node} (h : x.apart = y.apart) : x = { y with due := x.due, gapMark := x.gapMark } := by
  have hself : x = { x.apart with due := x.due, gapMark := x.gapMark } := rfl
  rw [h] at hself
  exact hself

theorem State.choose_node (s : State) (m : NodeIx) :
    s.choose.node m = { s.node m with due := (s.choose.node m).due, gapMark := (s.choose.node m).gapMark } :=
  Node.apart_eq ((State.chosen_choose s).node m)

/-! ## CYCLIC -/

theorem State.replyLen_inFlight {x : Exchange} (h : s.exchangeAgrees w x = true) :
    x.replyLen = s.replyLength w.cls w.op w.node := by
  simp only [State.exchangeAgrees, Bool.and_eq_true, beq_iff_eq] at h
  exact h.2

theorem Exchange.complete_payload_length (x : Exchange) (k : Nat) (driven : List Byte)
    (hok : (x.complete k driven).outcome = .ok) : (x.complete k driven).payload.length = x.replyLen := by
  have hpayload : (x.complete k driven).payload =
      if (x.complete k driven).outcome = .ok then replyPayload (x.replyBytes driven) else [] := rfl
  rw [hpayload, if_pos hok, x.replyPayload_eq, List.length_map, List.length_range]

theorem Exchange.complete_status_isSome (x : Exchange) (k : Nat) (driven : List Byte) :
    (x.complete k driven).status.isSome = ((x.complete k driven).outcome == .ok || (x.complete k driven).outcome == .busy ||
      (x.complete k driven).outcome == .refused) := by
  have hstatus : (x.complete k driven).status = if (x.complete k driven).outcome.deliversStatus then
      some (replyStatus (x.replyBytes driven)) else none := rfl
  rw [hstatus]
  cases (x.complete k driven).outcome <;> rfl

/-- The end of a work item that supervision hears of, once its exchange is over (R11, R86). -/
theorem State.finishWork_attempted {new : Node} {es : List Event} (hcls : ∀ h, w.cls ≠ .txn h) (hn : r.node = w.node)
    (hdoes : ∀ v : State, v.node w.node = (s.node w.node).toggled r → v.engine = s.engine →
      State.Does w.node v new es (v.supervise r)) :
    (s.attempted w r).finishWork w r = s.atBoundary w new (s.engine.counted w.cls r.outcome) es := by
  have hv := s.attempted_supervised hcls hn
  rw [State.finishWork_supervised hcls hv (hdoes _ (by rw [hv]; exact s.setNode_node_same w.node _) (by rw [hv]))]
  have hlink := s.atBoundary_link w new (s.engine.counted w.cls r.outcome) es
  show { s.atBoundary w new (s.engine.counted w.cls r.outcome) es with link := { s.link with rested := false, work := none } } = _
  rw [← hlink]

/-- A CYCLIC node goes OFFLINE at the threshold and is SUSPECT below it (R45 to R47). -/
theorem Node.failed_cyclic {g : Engine} (x : Node) (h : x.state ≠ .offline) : x.failed g .cyclic =
    if g.offlineThreshold.toNat ≤ min 15 (x.failCount + 1) then
      { x with
        state := .offline, failCount := min 15 (x.failCount + 1), reprobe := g.reprobeInterval.toNat, matchState := false }
    else { x with state := .suspect, failCount := min 15 (x.failCount + 1) } := by
  simp only [Node.failed, h, false_or, if_true]

/-- Settles O18: the store and the evaluation are one update of the node, which the end of the work item carries to the
boundary. -/
theorem cyclicOutcomeEvaluated : Obligations.CyclicOutcomeEvaluated := by
  intro s w x driven order changed hs hd hw hx hsel hop hfinal r old n image hchanged count enabled agrees noted new moved
    matched u
  obtain ⟨-, hinv⟩ := State.inv_of_sound hs
  have hitem := hinv.work.item w hw
  have hagrees : s.exchangeAgrees w x = true := (hinv.work.attempt w hw).parts.1 x hx
  obtain ⟨hnode, hxop, htoggle⟩ := State.exchangeAgrees_work hagrees
  have hrnode : r.node = w.node := hnode
  have hid : old.state = .online ∨ old.state = .suspect := hitem.identified hop
  have hmatch : old.wordMatches image = agrees := old.wordMatches_eq image
  have hmask : changedMask old.input image old.rise old.fall = changed := changedMask_eq hchanged
  have hnew : (old.toggled r).afterCyclic s.engine r = new := by
    unfold Node.afterCyclic
    by_cases hok : r.outcome = .ok
    · have htoggled : old.toggled r = { old with seq := w.toggle } := by
        rw [Node.toggled, if_pos hok, show r.toggle = w.toggle from htoggle]
      have hword : (({ old with seq := w.toggle } : Node).noted r).wordMatches image = agrees := hmatch
      rw [if_pos hok, htoggled, Node.stored, show imageOf r.payload = image from rfl, hword]
      exact (if_pos hok).symm
    · rw [if_neg hok, old.toggled_failed hok, Node.afterLastAttempt_eq]
      refine Eq.trans ?_ (if_neg hok).symm
      by_cases hbusy : r.outcome = .busy
      · rw [if_pos hbusy, if_pos hbusy]
        rfl
      · rw [if_neg hbusy, if_neg hbusy]
        exact (old.noted r).failed_cyclic (by obtain h | h := hid <;> simp [Node.noted, h])
  have hevents : storeEvents w.node (old.toggled r) image = moved ++ matched := by
    show changeEvents w.node old (changedMask old.input image old.rise old.fall) ++
      matchEvents w.node old (old.wordMatches image) image[0] = moved ++ matched
    rw [hmask, hmatch]
    rfl
  have hfinish : (s.attempted w r).finishWork w r = u := by
    refine State.finishWork_attempted (hitem.not_txn_of_cyclic hop) hrnode fun v hvnode hvengine => ?_
    have hdoes := State.does_supervise_cyclic (s := v) (r := r) (hxop.trans hop) (by rw [hrnode, hvnode]; exact hid)
      (by rw [hrnode, hvnode]; exact (hinv.nodes w.node).count)
    rw [hrnode, hvnode, hvengine, hnew, show imageOf r.payload = image from rfl, hevents] at hdoes
    exact hdoes
  have hstep : s.completeAttempt w x driven order = u.choose := by
    rw [State.completeAttempt_final hfinal]
    exact congrArg State.choose hfinish
  refine ⟨u.choose, ?_, rfl, ?_, x.complete_status_isSome _ _, fun hok => ?_, u.choose_node⟩
  · rw [exec_completion hd hw hx hsel, hstep]
  · rw [← hstep]
    exact s.kept_completeAttempt w x driven order
  · rw [show r.payload.length = x.replyLen from x.complete_payload_length _ _ hok, State.replyLen_inFlight hagrees, hop]
    cases w.cls <;> rfl

/-! ## Probes -/

/-- An IDENT request has toggle 0 (R12). -/
theorem State.ItemOk.toggle_ident (h : s.ItemOk w) (hop : w.op = .ident) : w.toggle = false := by
  rw [h.toggle, hop]
  rfl

/-- An IDENT reply agrees with its entry in the type, where one is expected, and in both lengths (R49). -/
theorem Node.agrees_iff (x : Node) (payload : List Byte) : x.agrees payload = true ↔
    (x.expectType = 0 ∨ x.expectType = payload.getD 0 0) ∧ payload.getD 1 0 = x.outLen ∧ payload.getD 2 0 = x.inLen := by
  simp [Node.agrees, and_assoc]

/-- Settles O19: the reported fields or the failure are one update of the node, which the end of the work item carries to the
boundary. -/
theorem probeOutcomeEvaluated : Obligations.ProbeOutcomeEvaluated := by
  intro s w x driven order hs hd hw hx hsel hop hclass hfinal r old count type out inp noted reported new u
  obtain ⟨-, hinv⟩ := State.inv_of_sound hs
  have hitem := hinv.work.item w hw
  have hagrees : s.exchangeAgrees w x = true := (hinv.work.attempt w hw).parts.1 x hx
  obtain ⟨hnode, hxop, htoggle⟩ := State.exchangeAgrees_work hagrees
  have hrnode : r.node = w.node := hnode
  have hcls (k : Byte) : w.cls ≠ .txn k := by obtain h | h := hclass <;> simp [h]
  have hold : old.Ok := hinv.nodes w.node
  have hmatch : old.matchState = false := hold.matchState_of_probed (hitem.probed hop hcls)
  have hnew : (old.toggled r).afterProbe s.engine r = new := by
    unfold Node.afterProbe
    by_cases hok : r.outcome = .ok
    · have htoggled : old.toggled r = { old with seq := false } := by
        rw [Node.toggled, if_pos hok, show r.toggle = w.toggle from htoggle, hitem.toggle_ident hop]
      rw [if_pos hok, htoggled, Node.probed]
      simp only [Node.agrees_iff]
      exact (if_pos hok).symm
    · rw [if_neg hok, old.toggled_failed hok]
      exact (if_neg hok).symm
  have hfinish : (s.attempted w r).finishWork w r = u := by
    refine State.finishWork_attempted hcls hrnode fun v hvnode hvengine => ?_
    have hdoes := State.does_supervise_probe (s := v) (r := r) (hxop.trans hop) (by rw [hrnode, hvnode]; exact hold.count)
      (by rw [hrnode, hvnode]; exact hmatch)
    rw [hrnode, hvnode, hvengine, hnew] at hdoes
    exact hdoes
  have hstep : s.completeAttempt w x driven order = u.choose := by
    rw [State.completeAttempt_final hfinal]
    exact congrArg State.choose hfinish
  refine ⟨u.choose, ?_, rfl, ?_, u.choose_node⟩
  · rw [exec_completion hd hw hx hsel, hstep]
  · rw [← hstep]
    exact s.kept_completeAttempt w x driven order

/-! ## Transactions -/

/-- A node after an IDENT transaction answered OK (R56, R57). -/
def Node.identified (x : Node) (payload : List Byte) : Node :=
  if x.agrees payload = true then x.reported payload else (x.reported payload).mismatched

theorem State.does_superviseIdentTxn (s : State) (r : Completion) :
    State.Does r.node s ((s.node r.node).identified r.payload)
      (stateEvents r.node (s.node r.node).state ((s.node r.node).identified r.payload).state) (s.superviseIdentTxn r) := by
  let v : State := s.report r.node r.payload
  have hreport := s.does_report r.node r.payload
  have hdef : s.superviseIdentTxn r = if (s.node r.node).agrees r.payload = true then v
      else (v.modNode r.node fun x => { x with matchState := false, inputAge := 255 }).enterState r.node .mismatch := rfl
  rw [hdef, Node.identified]
  split
  · have hsame : stateEvents r.node (s.node r.node).state ((s.node r.node).reported r.payload).state = [] := stateEvents_self _ _
    rw [hsame]
    exact hreport
  · have h := hreport.trans (v.does_update_enterState r.node (fun x => { x with matchState := false, inputAge := 255 }) .mismatch)
    rw [hreport.node] at h
    exact h

/-- A node after the final outcome of a transaction (R138 to R140). -/
def Node.afterTxn (x : Node) (op : LinkOp) (r : Completion) : Node :=
  if op = .ident ∧ r.outcome = .ok then x.identified r.payload else x

/-- The end of an entry after other events (R138, R139). -/
theorem State.emits_endEntry (s : State) (es : List Event) (e : TxnIx) (r : Completion) :
    ((s.emits es).modTxn e fun t => t.ended r).emitTxnEnd e =
      State.emits { s with txns := s.txns.set e ((s.txn e).ended r) }
        (es ++ [(.txnEnd, (s.txn e).node, s.handle e, resultField ((s.txn e).ended r).result)]) := by
  let v : State := s.modTxn e fun t => t.ended r
  have hentry : (v.emits es).txn e = (s.txn e).ended r := by
    rw [State.txn, State.emits_txns]
    exact s.modTxn_txn_same e _
  have hend (u : State) (h : u.txn e = (s.txn e).ended r) : u.emitTxnEnd e =
      u.emits [(.txnEnd, (s.txn e).node, s.handle e, resultField ((s.txn e).ended r).result)] := by
    rw [State.emitTxnEnd, State.handle, h]
    rfl
  rw [State.emits_modTxn, hend _ hentry, ← State.emits_append]
  rfl

/-- The end of a transaction's entry, after what supervision hears of (R138, R139). -/
theorem State.endTxn_eq (s : State) (e : TxnIx) (hn : r.node = n) :
    s.endTxn e r =
      State.emits { s with
        nodes := s.nodes.set n ((s.node n).afterTxn r.op r), txns := s.txns.set e ((s.txn e).ended r) }
        (stateEvents n (s.node n).state ((s.node n).afterTxn r.op r).state ++
          [(.txnEnd, (s.txn e).node, s.handle e, resultField ((s.txn e).ended r).result)]) := by
  subst hn
  have hheard : (if r.op = .ident ∧ r.outcome = .ok then s.superviseIdentTxn r else s) =
      (s.modNode r.node fun _ => (s.node r.node).afterTxn r.op r).emits
        (stateEvents r.node (s.node r.node).state ((s.node r.node).afterTxn r.op r).state) := by
    unfold Node.afterTxn
    split
    · exact s.does_superviseIdentTxn r
    · rw [stateEvents_self]
      exact s.does_refl r.node
  rw [State.endTxn, hheard, State.emits_endEntry]
  rfl

/-- A transaction ends as one update of its node and of its entry (R138 to R140). -/
theorem State.finishWork_txn {old : Node} {k : Byte} {l : Link} (hc : w.cls = .txn k) (hn : r.node = w.node)
    (hv : (v.modLink fun l => { l with work := none }) = { s with link := l, nodes := s.nodes.set w.node old }) :
    v.finishWork w r =
      { State.atBoundary { s with txns := s.txns.set (entryOf k) ((s.txn (entryOf k)).ended r) } w (old.afterTxn r.op r) s.engine
          (stateEvents w.node old.state (old.afterTxn r.op r).state ++
            [(.txnEnd, (s.txn (entryOf k)).node, s.handle (entryOf k), resultField ((s.txn (entryOf k)).ended r).result)])
        with link := l } := by
  have hset : (s.nodes.set w.node old).set w.node (old.afterTxn r.op r) = s.nodes.set w.node (old.afterTxn r.op r) := by simp
  have hnode : State.node { s with link := l, nodes := s.nodes.set w.node old } w.node = old := s.setNode_node_same w.node old
  refine State.finishWork_eq (s := { s with txns := s.txns.set (entryOf k) ((s.txn (entryOf k)).ended r) }) ?_ rfl
  rw [hv, hc, State.ownerEvaluates, State.endTxn_eq _ _ hn, hnode]
  simp only [hset]
  rfl

/-! ## The entries that a choice leaves -/

/-- An entry outside the pending order stays outside it and as it was. -/
def State.LeavesTxn (e : TxnIx) (s t : State) : Prop := e ∉ s.order → e ∉ t.order ∧ t.txn e = s.txn e

theorem State.LeavesTxn.of_eq {e : TxnIx} (ho : t.order = s.order) (ht : t.txns = s.txns) : s.LeavesTxn e t := fun h =>
  ⟨by rwa [ho], by rw [State.txn, State.txn, ht]⟩

theorem State.LeavesTxn.trans {e : TxnIx} (h : State.LeavesTxn e s t) (k : State.LeavesTxn e t u) : State.LeavesTxn e s u :=
  fun hs => by
    obtain ⟨ht, hst⟩ := h hs
    obtain ⟨hu, htu⟩ := k ht
    exact ⟨hu, htu.trans hst⟩

theorem State.leavesTxn_startWork (s : State) (c : WorkClass) (op : LinkOp) (n : NodeIx) (e : TxnIx) :
    State.LeavesTxn e s (s.startWork c op n) := by
  rw [State.startWork_eq]
  exact .of_eq rfl rfl

/-- What is picked is the front of the order, whichever way the pick ends (R94, R136, R137). -/
theorem State.leavesTxn_front {e k : TxnIx} {rest : List TxnIx} {f : Txn → Txn} (h : s.order = k :: rest) :
    State.LeavesTxn e s (({ s with order := rest } : State).modTxn k f) := fun he => by
  rw [h, List.mem_cons, not_or] at he
  exact ⟨he.2, by rw [State.modTxn_txn, if_neg he.1]; rfl⟩

theorem State.leavesTxn_handed {e : TxnIx} (h : s.tryTxn = .handed t) : State.LeavesTxn e s t := by
  unfold State.tryTxn at h
  split at h
  · cases h
  · next k rest hk =>
    dsimp only at h
    split at h
    · cases h
      exact (State.leavesTxn_front hk).trans (State.leavesTxn_startWork _ _ _ _ e)
    · cases h

theorem State.leavesTxn_unavailable {e : TxnIx} (h : s.tryTxn = .unavailable t) : State.LeavesTxn e s t := by
  unfold State.tryTxn at h
  split at h
  · cases h
  · next k rest hk =>
    dsimp only at h
    split at h
    · cases h
    · cases h
      let ended (u : Txn) : Txn := { u with
        state := .failed, result := some .nodeUnavailable, attempts := 0, replyStatus := 0, rdata := Vector.replicate 8 0
        cancelMark := false }
      rw [State.failUnavailable_eq]
      exact (State.leavesTxn_front (f := ended) hk).trans (.of_eq (State.emit_order _ _ _ _ _) (State.emit_txns _ _ _ _ _))

theorem State.leavesTxn_tryUrgent {e : TxnIx} (h : s.tryUrgent = some t) : State.LeavesTxn e s t := by
  obtain ⟨n, -, rfl⟩ := Option.map_eq_some_iff.1 h
  exact s.leavesTxn_startWork _ _ n e

theorem State.leavesTxn_tryUrgentFirst {e : TxnIx} (h : s.tryUrgentFirst = some t) : State.LeavesTxn e s t := by
  unfold State.tryUrgentFirst at h
  split at h
  · cases h
  · exact State.leavesTxn_tryUrgent h

theorem State.leavesTxn_chooseGap (e : TxnIx) (fuel : Nat) (s : State) : State.LeavesTxn e s (State.chooseGap fuel s) := by
  induction fuel generalizing s with
  | zero => exact .of_eq rfl rfl
  | succ fuel ih =>
    unfold State.chooseGap
    split
    · next t h => exact State.leavesTxn_tryUrgentFirst h
    · split
      · next t h =>
        split at h
        · obtain ⟨n, -, rfl⟩ := Option.map_eq_some_iff.1 h
          exact (s.leavesTxn_startWork _ _ n e).trans (.of_eq rfl rfl)
        · cases h
      · split
        · next t h => exact State.leavesTxn_handed h
        · next t h => exact (State.leavesTxn_unavailable h).trans (ih t)
        · cases h : s.tryUrgent with
          | none => exact .of_eq rfl rfl
          | some t => exact State.leavesTxn_tryUrgent h

theorem State.leavesTxn_endCycle (s : State) (e : TxnIx) : State.LeavesTxn e s s.endCycle := by
  rw [State.endCycle_eq]
  split
  · exact .of_eq (by simp only [State.emit_order]) (by simp only [State.emit_txns])
  · exact .of_eq (by simp only [State.emit_order]) (by simp only [State.emit_txns])

theorem State.leavesTxn_chooseCycling (e : TxnIx) (fuel : Nat) (s : State) :
    State.LeavesTxn e s (State.chooseCycling fuel s) := by
  induction fuel generalizing s with
  | zero => exact .of_eq rfl rfl
  | succ fuel ih =>
    unfold State.chooseCycling
    split
    · next t h => exact State.leavesTxn_tryUrgentFirst h
    · split
      · next t h =>
        split at h
        · exact State.leavesTxn_handed h
        · cases h
      · next t h =>
        split at h
        · exact (State.leavesTxn_unavailable h).trans (ih t)
        · cases h
      · cases h : s.trySlot with
        | none => exact (s.leavesTxn_endCycle e).trans (State.leavesTxn_chooseGap e _ _)
        | some t =>
          obtain ⟨k, -, rfl⟩ := Option.map_eq_some_iff.1 h
          exact State.LeavesTxn.trans (t := s.modEngine fun g => { g with cursor := k.val + 1 }) (.of_eq rfl rfl)
            (State.leavesTxn_startWork _ _ _ _ e)

/-- A choice leaves every entry that is not in the pending order. -/
theorem State.choose_txn {e : TxnIx} (h : e ∉ s.order) : s.choose.txn e = s.txn e := by
  have hleaves : State.LeavesTxn e s s.choose := by
    unfold State.choose
    split
    · exact State.leavesTxn_chooseCycling e _ s
    · exact State.leavesTxn_chooseGap e _ s
    · exact State.leavesTxn_chooseGap e _ s
    · exact .of_eq rfl rfl
  exact (hleaves h).2

/-! ## The end of a transaction -/

theorem State.ItemOk.handle_txn {k : Byte} (h : s.ItemOk w) (hc : w.cls = .txn k) : s.handle (entryOf k) = k := by
  have hcls := h.cls
  rw [State.classAgrees, hc] at hcls
  simp only [Bool.and_eq_true, beq_iff_eq] at hcls
  obtain ⟨⟨⟨⟨⟨-, hhandle⟩, -⟩, -⟩, -⟩, -⟩ := hcls
  exact hhandle.symm

theorem State.attempted_txn {k : Byte} (hc : w.cls = .txn k) (hn : r.node = w.node) :
    ((s.attempted w r).modLink fun l => { l with work := none }) =
      { s with
        link := s.link.over, nodes := s.nodes.set w.node ((s.node w.node).toggled r)
        txns := s.txns.set (entryOf k) { s.txn (entryOf k) with attempts := (s.txn (entryOf k)).attempts + 1 } } := by
  rw [State.attempted, State.updateToggle_eq, hn, hc]
  rfl

/-- The code of a result as TXN_END carries it (R139). -/
theorem resultField_ended (t : Txn) (r : Completion) : resultField (t.ended r).result =
    if r.outcome = .ok then 0 else if t.cancelMark then 7 else r.outcome.code := by
  unfold Txn.ended
  by_cases hok : r.outcome = .ok
  · simp only [hok, if_true]
    rfl
  · by_cases hcancel : t.cancelMark = true
    · simp only [hok, hcancel, if_false, if_true]
      rfl
    · simp only [hok, hcancel, if_false]
      rfl

/-- Settles O20: the entry's end is one update of the entry and of what supervision hears of, which the end of the work item
carries to the boundary; the choice leaves an entry that is not QUEUED. -/
theorem transactionOutcomeEndsEntry : Obligations.TransactionOutcomeEndsEntry := by
  intro s w x h driven order hs hd hw hx hsel hc hfinal r old request type out inp toggled reported new entry code u
  obtain ⟨-, hinv⟩ := State.inv_of_sound hs
  have hitem := hinv.work.item w hw
  have hagrees : s.exchangeAgrees w x = true := (hinv.work.attempt w hw).parts.1 x hx
  obtain ⟨hnode, hxop, htoggle⟩ := State.exchangeAgrees_work hagrees
  have hrnode : r.node = w.node := hnode
  have htoggled : old.toggled r = toggled := by
    rw [Node.toggled, show r.toggle = w.toggle from htoggle]
  have hnew : toggled.afterTxn r.op r = new := by
    unfold Node.afterTxn Node.identified
    simp only [Node.agrees_iff, show r.op = w.op from hxop]
    rfl
  let s₁ : State := { s with
    txns := s.txns.set (entryOf h) { request with attempts := request.attempts + 1 } }
  have hrequest : s₁.txn (entryOf h) = { request with attempts := request.attempts + 1 } := s.setTxn_txn_same _ _
  have hentry : (s₁.txn (entryOf h)).ended r = entry := by rw [hrequest]; rfl
  have hhandle : s₁.handle (entryOf h) = h := by
    rw [State.handle, hrequest]
    exact hitem.handle_txn hc
  have hset : s₁.txns.set (entryOf h) entry = s.txns.set (entryOf h) entry := by simp [s₁]
  have hresult : resultField entry.result = code := by
    rw [← hentry, resultField_ended, hrequest]
  have hfinish : (s.attempted w r).finishWork w r = u := by
    rw [State.finishWork_txn (s := s₁) hc hrnode (State.attempted_txn hc hrnode), hentry, htoggled, hnew, hhandle, hset, hresult,
      hrequest]
    have hlink := State.atBoundary_link { s with txns := s.txns.set (entryOf h) entry } w new s.engine
      (stateEvents w.node old.state new.state ++ [(.txnEnd, request.node, h, code)])
    exact congrArg (fun l => { u with link := l }) hlink.symm
  have hstep : s.completeAttempt w x driven order = u.choose := by
    rw [State.completeAttempt_final hfinal]
    exact congrArg State.choose hfinish
  refine ⟨u.choose, ?_, rfl, ?_, ?_, u.choose_node⟩
  · rw [exec_completion hd hw hx hsel, hstep]
  · rw [← hstep]
    exact s.kept_completeAttempt w x driven order
  · have hentryAt : u.txn (entryOf h) = entry := by
      have htxns : u.txns = s.txns.set (entryOf h) entry := State.emits_txns _ _
      rw [State.txn, htxns]
      exact s.setTxn_txn_same _ _
    have horder : u.order = s.order := State.emits_order _ _
    have hout : entryOf h ∉ u.order := by
      rw [horder, hinv.txns.queued, (hinv.txns.active (entryOf h)).1 (by rw [Link.carried_of_work hw, hc]; rfl)]
      decide
    rw [State.choose_txn hout, hentryAt]

end Sys2Proof.Machine
end

section
/-! SUPPORT. The engine commands and the cycle starts, the codes with no effect but their answer, and SCAN_CLEAR; with their
statements. -/

namespace Sys2Proof.Machine

variable {s t u : State}

/-! ## The command byte -/

/-- The port after a command byte, which a port address takes (R174). -/
def Port.acked (p : Port) : Port := { p with ack := true }

theorem State.command_startScan (s : State) : s.command Config.codeStartScan = s.cmdStartScan := if_pos rfl

theorem State.command_triggerCycle (s : State) : s.command Config.codeTriggerCycle = s.cmdTriggerCycle := by
  unfold State.command
  iterate 2 rw [if_neg (by decide)]
  rw [if_pos rfl]

theorem State.command_nodeEnable (s : State) : s.command Config.codeNodeEnable = s.cmdNode State.nodeEnable := by
  unfold State.command
  iterate 3 rw [if_neg (by decide)]
  rw [if_pos rfl]

theorem State.command_nodeDisable (s : State) : s.command Config.codeNodeDisable = s.cmdNode State.nodeDisable := by
  unfold State.command
  iterate 4 rw [if_neg (by decide)]
  rw [if_pos rfl]

theorem State.command_nodeReprobe (s : State) : s.command Config.codeNodeReprobe = s.cmdNode State.nodeReprobe := by
  unfold State.command
  iterate 5 rw [if_neg (by decide)]
  rw [if_pos rfl]

theorem State.command_scanClear (s : State) : s.command Config.codeScanClear = s.cmdScanClear := by
  unfold State.command
  iterate 7 rw [if_neg (by decide)]
  rw [if_pos rfl]

theorem State.command_unknown {b : Byte} (h : b ∉ [Config.codeStartScan, Config.codeStopScan, Config.codeTriggerCycle,
    Config.codeNodeEnable, Config.codeNodeDisable, Config.codeNodeReprobe, Config.codeEvqFlush, Config.codeScanClear,
    Config.codeSoftReset]) : s.command b = s.cmdUnknown := by
  simp only [List.mem_cons, List.not_mem_nil, not_or] at h
  simp only [State.command, h, if_false]

/-- A node command runs on the node that CMD_ARG names (R28). -/
theorem State.cmdNode_named {n : NodeIx} (h : s.cmd.arg.toNat = n.val) (f : State → NodeIx → State) :
    s.cmdNode f = f s n := by
  have hnode : s.argNode = some n := by
    rw [State.argNode, if_pos (by omega), h]
    exact congrArg some (Fin.ext (Nat.mod_eq_of_lt n.isLt))
  rw [State.cmdNode, hnode]

theorem State.cmdNode_unnamed (h : 15 < s.cmd.arg.toNat) (f : State → NodeIx → State) : s.cmdNode f = s.badArgument := by
  rw [State.cmdNode, State.argNode, if_neg (by omega)]

/-- Settles O48: a code outside the nine, and a node command whose argument names no node, have their answer alone. -/
theorem unknownAndBadArgument : Obligations.UnknownAndBadArgument := by
  refine fun s hw => ⟨fun code hcode => ?_, fun c hc harg => ?_⟩
  · rw [exec_command (b := code) rfl hw, State.command_unknown hcode]
    rfl
  · obtain rfl | rfl | rfl := hc
    · rw [exec_command (b := Config.codeNodeEnable) rfl hw, State.command_nodeEnable, State.cmdNode_unnamed harg]
      rfl
    · rw [exec_command (b := Config.codeNodeDisable) rfl hw, State.command_nodeDisable, State.cmdNode_unnamed harg]
      rfl
    · rw [exec_command (b := Config.codeNodeReprobe) rfl hw, State.command_nodeReprobe, State.cmdNode_unnamed harg]
      rfl

/-! ## A boundary at the end of a row -/

/-- A boundary within a byte is the choice made after it on an idle link; while a work item is in progress there is none, and
a waiting retry goes out (R86). -/
theorem State.idleBoundary_took (u : State) (f : Port → Port) : (u.idleBoundary.modPort f).handOverRetry =
    if u.link.work = none then (u.modPort f).choose else (u.modPort f).handOverRetry := by
  split
  · next h => rw [State.idleBoundary_idle h, State.choose_took h]
  · next h => rw [State.idleBoundary_busy h]

theorem State.kept_boundary (u : State) (f : Port → Port) :
    (u.modPort f).HostSideKept (u.idleBoundary.modPort f).handOverRetry := by
  rw [State.idleBoundary_took]
  split
  · exact State.kept_choose _
  · exact State.kept_handOverRetry _

theorem State.chosen_boundary (u : State) (f : Port → Port) : u.Chosen (u.idleBoundary.modPort f).handOverRetry := by
  have h : u.Chosen (u.modPort f) := ⟨rfl, rfl, rfl, rfl, rfl, .inl rfl, fun _ => rfl⟩
  rw [State.idleBoundary_took]
  split
  · exact h.trans (State.chosen_choose _)
  · exact h.trans (State.chosen_handOverRetry _)

/-! ## Cycle starts -/

/-- The cycle-start duties, field by field (R54). -/
theorem Node.cycleDuties_eq (x : Node) : x.cycleDuties = { x with
    inputAge := if x.state = .disabled ∨ x.state = .mismatch then x.inputAge
      else if x.inputAge < 255 then x.inputAge + 1 else x.inputAge
    reprobe := if x.state = .offline then x.reprobe - 1 else x.reprobe } := by
  unfold Node.cycleDuties succUpTo
  cases h : x.state <;> simp <;> rw [← h]

/-- A cycle start taken in WAITING, as one update (R54, R73). -/
theorem State.beginCycle_eq (s : State) : s.beginCycle = { s with
    engine := { s.engine with
      cycle := s.engine.cycle + 1, latchedLen := s.engine.schedLen.toNat, cursor := 0, evaluated := 0, failed := 0
      dropped := 0, state := .cycling }
    nodes := tabMap (fun x => { x with
      inputAge := if x.state = .disabled ∨ x.state = .mismatch then x.inputAge
        else if x.inputAge < 255 then x.inputAge + 1 else x.inputAge
      reprobe := if x.state = .offline then x.reprobe - 1 else x.reprobe }) s.nodes } := by
  have hduties := funext Node.cycleDuties_eq
  rw [← hduties]
  rfl

theorem State.cycleStart_waiting (h : s.engine.state = .waiting) : s.cycleStart = s.beginCycle.idleBoundary := by
  rw [State.cycleStart, h]

theorem State.cycleStart_counted (h : s.engine.state = .cycling ∨ s.engine.state = .draining) :
    s.cycleStart = s.overrun := by
  obtain h | h := h <;> rw [State.cycleStart, h]

theorem State.cycleStart_stopped (h : s.engine.state = .stopped) : s.cycleStart = s := by
  rw [State.cycleStart, h]

/-- An expiry of the running timer reloads it and is a cycle start (R69). -/
theorem exec_cycleTimerExpiry (hd : s.port.readDue = false) (h : s.engine.timer ≠ none) : exec .cycleTimerExpiry s =
    .next (s.modEngine Engine.loadTimer).cycleStart.handOverRetry := by
  obtain ⟨k, hk⟩ := Option.ne_none_iff_exists'.1 h
  show Host.Outcome.next (State.moment State.timerExpiry s) = _
  rw [State.moment_notDue _ hd, State.timerExpiry, hk]

theorem exec_syncInputEdge (hd : s.port.readDue = false) (edge : Edge) : exec (.syncInputEdge edge) s =
    .next (State.handOverRetry (if s.engine.source = .sync ∧ s.engine.syncEdge = edge then s.cycleStart else s)) :=
  congrArg Host.Outcome.next (State.moment_notDue (·.syncEdge edge) hd)

theorem exec_triggerCycle (h : s.writingAt 0x009) : exec .triggerCycle s = .next (State.handOverRetry
    ((if s.engine.state = .stopped ∨ s.engine.source ≠ .host then s.refuseCommand
      else (s.answer .ok).cycleStart).modPort Port.acked)) := by
  rw [exec_command (b := Config.codeTriggerCycle) rfl h, State.command_triggerCycle]
  rfl

/-- Settles O46: the three sources are one cycle start, whose end is the boundary. -/
theorem cycleStartBeginsCycle : Obligations.CycleStartBeginsCycle := by
  intro s edge hd hwait begun reloaded accepted follows
  have row (c : Instr) (u v : State) (f : Port → Port) (hv : v = u.modPort f) (hlink : u.link = s.link)
      (hcycle : u.engine.cycle = s.engine.cycle) (hlen : u.engine.schedLen = s.engine.schedLen)
      (hrow : exec c s = .next (u.beginCycle.idleBoundary.modPort f).handOverRetry) : follows c v := by
    have hbegun : u.beginCycle.modPort f = begun v := by
      rw [State.beginCycle_eq, hv]
      rfl
    have hidle : u.beginCycle.link.work = s.link.work := congrArg Link.work hlink
    have hchosen := State.chosen_boundary u.beginCycle f
    rw [State.idleBoundary_took, hbegun, hidle] at hrow
    rw [State.idleBoundary_took, hbegun, hidle] at hchosen
    have hkept : (begun v).HostSideKept (if s.link.work = none then (begun v).choose else (begun v).handOverRetry) := by
      split
      · exact State.kept_choose _
      · exact State.kept_handOverRetry _
    refine ⟨fun h => ?_, fun h => ?_, _, hrow, ?_, ?_, hkept, fun n => ?_⟩
    · rw [hrow, if_neg h]
    · rw [hrow, if_pos h]
    · exact hchosen.cycle.trans (congrArg (· + 1) hcycle)
    · exact hchosen.latchedLen.trans (congrArg BitVec.toNat hlen)
    · have hnode : u.beginCycle.node n = (begun v).node n := by rw [← hbegun, State.modPort_node]
      have hapart := hchosen.node n
      rw [hnode] at hapart
      have hage := congrArg Node.inputAge hapart
      have hwait := congrArg Node.reprobe hapart
      exact ⟨hage, hwait⟩
  refine ⟨fun ht => ?_, fun hsrc hedge => ?_, fun hw hsrc => ?_⟩
  · refine row _ (s.modEngine Engine.loadTimer) _ id rfl rfl rfl rfl ?_
    rw [exec_cycleTimerExpiry hd ht, State.cycleStart_waiting (s := s.modEngine Engine.loadTimer) hwait]
    rfl
  · refine row _ s _ id rfl rfl rfl rfl ?_
    rw [exec_syncInputEdge hd, if_pos ⟨hsrc, hedge⟩, State.cycleStart_waiting hwait]
    rfl
  · refine row _ (s.answer .ok) _ Port.acked rfl rfl rfl rfl ?_
    rw [exec_triggerCycle hw, if_neg (by simp [hwait, hsrc]), State.cycleStart_waiting (s := s.answer .ok) hwait]

/-- Settles O47: in CYCLING and DRAINING a start is an overrun, in STOPPED it is nothing. -/
theorem overrunIsCounted : Obligations.OverrunIsCounted := by
  intro s edge hd port counted
  refine ⟨fun hc => ⟨fun ht => ?_, fun hsrc hedge => ?_, fun hw hsrc => ?_⟩, fun h => ?_, fun hw h => ?_⟩
  · rw [exec_cycleTimerExpiry hd ht, State.cycleStart_counted (s := s.modEngine Engine.loadTimer) hc]
    rfl
  · rw [exec_syncInputEdge hd, if_pos ⟨hsrc, hedge⟩, State.cycleStart_counted hc]
    rfl
  · have hrun : ¬ (s.engine.state = .stopped ∨ s.engine.source ≠ .host) := by
      rintro (hs | hs)
      · obtain hc | hc := hc <;> rw [hc] at hs <;> cases hs
      · exact hs hsrc
    rw [exec_triggerCycle hw, if_neg hrun, State.cycleStart_counted (s := s.answer .ok) hc]
    rfl
  · rw [exec_syncInputEdge hd]
    by_cases hedge : s.engine.source = .sync ∧ s.engine.syncEdge = edge
    · have hstop : s.engine.state = .stopped := by
        obtain h | h | h := h
        · exact absurd hedge.1 h
        · exact absurd hedge.2 h
        · exact h
      rw [if_pos hedge, State.cycleStart_stopped hstop]
    · rw [if_neg hedge]
  · rw [exec_triggerCycle hw, if_pos h]
    rfl

/-! ## START_SCAN -/

theorem exec_startScan (h : s.writingAt 0x009) :
    exec .startScan s = .next (s.cmdStartScan.modPort Port.acked).handOverRetry := by
  rw [exec_command (b := Config.codeStartScan) rfl h, State.command_startScan]
  rfl

/-- The engine started, with its first cycle begun where the source is TIMER (R72). -/
def State.startedFirst (s : State) : State :=
  if s.engine.source = .timer then (s.started.modEngine Engine.loadTimer).beginCycle else s.started

theorem State.cmdStartScan_stopped (h : s.engine.state = .stopped) : s.cmdStartScan = s.startedFirst.idleBoundary := by
  have hsource : s.started.engine.source = s.engine.source := by rw [State.started_engine]
  rw [State.cmdStartScan_eq, if_pos h, hsource, State.startedFirst]
  split <;> rfl

theorem State.startedFirst_engine (s : State) : s.startedFirst.engine =
    if s.engine.source = .timer then { s.engine with
      timer := some s.engine.period.toNat, cycle := s.engine.cycle + 1, latchedLen := s.engine.schedLen.toNat, cursor := 0
      evaluated := 0, failed := 0, dropped := 0, state := .cycling }
    else { s.engine with latchedLen := s.engine.schedLen.toNat, state := .waiting } := by
  rw [State.startedFirst, apply_ite State.engine, State.beginCycle_engine, State.modEngine_engine, State.started_engine]
  rfl

/-- Settles O44: the start and its first cycle are one update, whose end is the boundary. -/
theorem startScanStartsEngine : Obligations.StartScanStartsEngine := by
  intro s hw port answered waiting announced cycling
  have hannounced : s.started.modPort Port.acked = announced := by
    rw [State.started, ← State.emit_modPort]
    rfl
  have hengine : announced.engine = { s.engine with latchedLen := s.engine.schedLen.toNat, state := .waiting } := by
    rw [← hannounced, State.modPort_engine, State.started_engine]
  have hcycling : (s.started.modEngine Engine.loadTimer).beginCycle.modPort Port.acked = cycling := by
    have hcomm : (s.started.modEngine Engine.loadTimer).beginCycle.modPort Port.acked =
        (announced.modEngine Engine.loadTimer).beginCycle := by
      rw [← hannounced]
      rfl
    rw [hcomm, State.beginCycle_eq]
    simp only [cycling, State.modEngine, Engine.loadTimer, hengine]
  have hfirst : s.startedFirst.modPort Port.acked = if s.engine.source = .timer then cycling else announced := by
    rw [State.startedFirst, apply_ite (State.modPort · Port.acked), hcycling, hannounced]
  have hlink : s.startedFirst.link = s.link := by
    have hstarted : s.started.link = s.link := State.emit_link ..
    rw [State.startedFirst]
    split
    · exact hstarted
    · exact hstarted
  have hrow (h : s.engine.state = .stopped) : exec .startScan s =
      .next (s.startedFirst.idleBoundary.modPort Port.acked).handOverRetry := by
    rw [exec_startScan hw, State.cmdStartScan_stopped h]
  refine ⟨fun h => ?_, fun h hbusy => ?_, fun h hidle => ?_, fun h => ⟨_, hrow h, ?_⟩⟩
  · rw [exec_startScan hw, State.cmdStartScan_eq, if_neg h]
    rfl
  · rw [hrow h, State.idleBoundary_took, hlink, if_neg hbusy, hfirst]
  · rw [hrow h, State.idleBoundary_took, hlink, if_pos hidle, hfirst]
  · have hchosen := State.chosen_boundary s.startedFirst Port.acked
    have hcmd : s.startedFirst.cmd = answered := by
      have hstarted : s.started.cmd = answered := State.emit_cmd ..
      rw [State.startedFirst, apply_ite State.cmd]
      exact (ite_self _).trans hstarted
    obtain ⟨hkeeps, hcycle, htimer, hlen, -, hrunning, -⟩ := hchosen
    have hstate : s.startedFirst.engine.state ≠ .stopped ∧ s.startedFirst.engine.state ≠ .draining := by
      rw [State.startedFirst_engine]
      split <;> exact ⟨nofun, nofun⟩
    refine ⟨hkeeps.trans hcmd, hlen.trans ?_, fun hs => ?_, fun hs => ?_, hcycle.trans ?_, htimer.trans ?_⟩
    · rw [State.startedFirst_engine]
      split <;> rfl
    · obtain h | ⟨-, h⟩ := hrunning
      · exact hstate.1 (h.symm.trans hs)
      · cases h.symm.trans hs
    · obtain h | ⟨-, h⟩ := hrunning
      · exact hstate.2 (h.symm.trans hs)
      · cases h.symm.trans hs
    · rw [State.startedFirst_engine, apply_ite Engine.cycle]
    · rw [State.startedFirst_engine, apply_ite Engine.timer]

/-! ## SCAN_CLEAR -/

theorem exec_scanClear (h : s.writingAt 0x009) : exec .scanClear s = .next (s.cmdScanClear.modPort Port.acked) := by
  rw [exec_command (b := Config.codeScanClear) rfl h, State.command_scanClear]
  exact congrArg Host.Outcome.next (State.handOverRetry_calm (State.calm_of_idle rfl))

/-- A NODE_DISABLE waits for the work item in progress (R35). -/
theorem State.disablePending_iff (s : State) (n : NodeIx) : s.disablePending n = true ↔
    ∃ w, s.link.work = some w ∧ w.node = n ∧ w.nodeCmd = some .disable := by
  unfold State.disablePending
  cases h : s.workOf n with
  | none =>
    refine iff_of_false nofun ?_
    rintro ⟨w, hw, hn, -⟩
    exact State.workOf_eq_none h w hw hn
  | some w =>
    obtain ⟨hw, hn⟩ := State.workOf_eq_some.1 h
    simp [hw, hn]

/-- A select line that was low is released, and the rest begins again (R2, R20). -/
theorem State.abortWork_rested {x : Exchange} (h : s.link.exchange = some x) :
    s.abortWork.link.rested = (s.link.rested && !x.selected) := by
  simp only [State.abortWork, State.modLink, h]

theorem State.abortWork_rested_none (h : s.link.exchange = none) : s.abortWork.link.rested = s.link.rested := by
  simp only [State.abortWork, State.modLink, h]

theorem Txn.cleared_eq (x : Txn) : x.cleared = { x with
    state := .free, cancelMark := false, gen := if x.state = .free then x.gen else x.gen + 1 } := by
  unfold Txn.cleared Txn.freed
  split
  · next h => simp only [← h]
  · rfl

/-- Settles O53: every block's clearing, and the two tables entry by entry. -/
theorem scanClearClearsEveryBlock : Obligations.ScanClearClearsEveryBlock := by
  intro s hw cleared driven disabling
  have hnone : (s.cmdScanClear.modPort Port.acked).link.work = none := rfl
  obtain ⟨hsdo, hselect⟩ := State.lines_high (s := s.cmdScanClear.modPort Port.acked) fun w x h => by
    rw [hnone] at h
    cases h
  have hnode (n : NodeIx) : (s.cmdScanClear.modPort Port.acked).node n = (s.node n).cleared (s.disablePending n) :=
    s.cmdScanClear_node n
  have hunserved {x : Node} (h : x.state = .disabled) (d : Bool) : x.cleared d = cleared x := if_pos h
  have hserved {x : Node} (h : x.state ≠ .disabled) (d : Bool) : x.cleared d =
      if d = true then { cleared x with state := .disabled }
      else { cleared x with state := .probing, failCount := 0, seq := false, alert := false } := if_neg h
  refine ⟨_, exec_scanClear hw, rfl, rfl, hsdo, hselect, rfl, fun h => ?_,
    fun h => ?_, fun n => ⟨fun h => ?_, fun h hd => ?_, fun h hd => ?_⟩, fun e => ?_⟩
  · obtain ⟨w, x, hwork, hx, hsel⟩ := h
    refine (State.abortWork_rested (s := s) (Link.exchange_inFlight hwork hx)).trans ?_
    rw [hsel]
    exact Bool.and_false _
  · show s.abortWork.link.rested = s.link.rested
    cases he : s.link.exchange with
    | none => exact State.abortWork_rested_none he
    | some x =>
      obtain ⟨w, hwork, hx⟩ := Link.exchange_some he
      have hsel : x.selected = false := Bool.not_eq_true _ |>.mp fun hsel => h ⟨w, x, hwork, hx, hsel⟩
      rw [State.abortWork_rested he, hsel]
      exact Bool.and_true _
  · rw [hnode, hunserved h]
  · rw [hnode, hserved h, if_pos ((s.disablePending_iff n).2 hd)]
  · rw [hnode, hserved h, if_neg fun hp => hd ((s.disablePending_iff n).1 hp)]
  · exact (s.cmdScanClear_txn e).trans (s.txn e).cleared_eq

end Sys2Proof.Machine
end

section
/-! SUPPORT. The node commands whose effect is immediate, and SUBMIT with the pick it may lead to; with the statements about
NODE_ENABLE and SUBMIT. -/

namespace Sys2Proof.Machine

variable {s t u v : State} {n : NodeIx}

/-! ## The engine at a choice outside CYCLING -/

theorem State.startWork_engine (s : State) (c : WorkClass) (op : LinkOp) (n : NodeIx) :
    (s.startWork c op n).engine = s.engine := by
  rw [State.startWork_eq]
  rfl

theorem State.engine_of_tryUrgent (h : s.tryUrgent = some t) : t.engine = s.engine := by
  obtain ⟨n, -, rfl⟩ := Option.map_eq_some_iff.1 h
  exact s.startWork_engine _ _ n

theorem State.engine_of_tryUrgentFirst (h : s.tryUrgentFirst = some t) : t.engine = s.engine := by
  unfold State.tryUrgentFirst at h
  split at h
  · cases h
  · exact State.engine_of_tryUrgent h

theorem State.engine_of_tryTxn_handed (h : s.tryTxn = .handed t) : t.engine = s.engine := by
  unfold State.tryTxn at h
  split at h
  · cases h
  · dsimp only at h
    split at h
    · cases h
      exact State.startWork_engine _ _ _ _
    · cases h

theorem State.chooseGap_engine (fuel : Nat) (s : State) : (State.chooseGap fuel s).engine = s.engine := by
  induction fuel generalizing s with
  | zero => rfl
  | succ fuel ih =>
    unfold State.chooseGap
    split
    · next t h => exact State.engine_of_tryUrgentFirst h
    · split
      · next t h =>
        split at h
        · obtain ⟨n, -, rfl⟩ := Option.map_eq_some_iff.1 h
          exact s.startWork_engine _ _ n
        · cases h
      · split
        · next t h => exact State.engine_of_tryTxn_handed h
        · next t h => exact (ih t).trans (State.tryTxn_unavailable_engine h)
        · cases h : s.tryUrgent with
          | none => rfl
          | some t => exact State.engine_of_tryUrgent h

/-- Only a cycle is walked: elsewhere a choice leaves the engine as it is (R75, R91). -/
theorem State.choose_engine (h : s.engine.state ≠ .cycling) : s.choose.engine = s.engine := by
  unfold State.choose
  split
  · next hs => exact absurd hs h
  · exact State.chooseGap_engine _ s
  · exact State.chooseGap_engine _ s
  · rfl

/-! ## A node taken to PROBING by command -/

theorem State.emits_modPort (s : State) (es : List Event) (f : Port → Port) :
    (s.emits es).modPort f = (s.modPort f).emits es := by
  rw [State.emits_eq es s, State.emits_eq es (s.modPort f), State.emits_evq_congr es (s.modPort f) s rfl rfl]
  rfl

theorem State.handOverRetry_engine (s : State) : s.handOverRetry.engine = s.engine := by
  unfold State.handOverRetry
  split
  · split
    · split
      · rfl
      · rw [State.handOver_eq]
        rfl
    · rfl
  · rfl

theorem State.handOverRetry_idle (h : s.link.work = none) : s.handOverRetry = s :=
  State.handOverRetry_calm (State.calm_of_idle h)

/-- The end of a node command that has taken its node to PROBING: the choice where that forms a boundary (R86). -/
def State.probingEnd (s : State) (n : NodeIx) (f : Port → Port) : State := ((s.probeBoundary n).modPort f).handOverRetry

theorem State.probingEnd_busy (f : Port → Port) (h : s.engine.state ≠ .waiting ∨ s.link.work ≠ none) :
    s.probingEnd n f = (s.modPort f).handOverRetry := by
  have hsame : s.probeBoundary n = s := by
    unfold State.probeBoundary
    split
    · next hp =>
      obtain h | h := h
      · exact absurd hp.1 h
      · exact State.idleBoundary_busy h
    · rfl
  rw [State.probingEnd, hsame]

theorem State.probingEnd_needed (f : Port → Port) (hs : s.engine.state = .waiting) (hl : s.link.work = none)
    (hn : s.needsGapProbe n = true) : s.probingEnd n f = (s.modPort f).choose := by
  rw [State.probingEnd, State.probeBoundary, if_pos ⟨hs, hn⟩, State.idleBoundary_took, if_pos hl]

theorem State.probingEnd_unneeded (f : Port → Port) (hl : s.link.work = none) (hn : ¬ s.needsGapProbe n = true) :
    s.probingEnd n f = s.modPort f := by
  rw [State.probingEnd, State.probeBoundary, if_neg fun h => hn h.2]
  exact State.handOverRetry_idle (s := s.modPort f) hl

theorem State.probingEnd_cases (s : State) (n : NodeIx) (f : Port → Port) :
    s.probingEnd n f = (s.modPort f).handOverRetry ∨
    (s.engine.state = .waiting ∧ s.probingEnd n f = (s.modPort f).choose) := by
  by_cases hb : s.engine.state ≠ .waiting ∨ s.link.work ≠ none
  · exact .inl (State.probingEnd_busy f hb)
  · rw [not_or, not_not, not_not] at hb
    obtain ⟨hs, hl⟩ := hb
    by_cases hn : s.needsGapProbe n = true
    · exact .inr ⟨hs, State.probingEnd_needed f hs hl hn⟩
    · refine .inl ?_
      rw [State.probingEnd_unneeded f hl hn]
      exact (State.handOverRetry_idle (s := s.modPort f) hl).symm

theorem State.kept_probingEnd (s : State) (n : NodeIx) (f : Port → Port) :
    (s.modPort f).HostSideKept (s.probingEnd n f) := by
  obtain h | ⟨-, h⟩ := s.probingEnd_cases n f <;> rw [h]
  · exact State.kept_handOverRetry _
  · exact State.kept_choose _

theorem State.chosen_probingEnd (s : State) (n : NodeIx) (f : Port → Port) : (s.modPort f).Chosen (s.probingEnd n f) := by
  obtain h | ⟨-, h⟩ := s.probingEnd_cases n f <;> rw [h]
  · exact State.chosen_handOverRetry _
  · exact State.chosen_choose _

theorem State.probingEnd_engine (s : State) (n : NodeIx) (f : Port → Port) : (s.probingEnd n f).engine = s.engine := by
  obtain h | ⟨hs, h⟩ := s.probingEnd_cases n f <;> rw [h]
  · exact State.handOverRetry_engine _
  · exact State.choose_engine (s := s.modPort f) (by rw [State.modPort_engine, hs]; decide)

/-- A node that is PROBING needs a gap probe unless it is marked or scheduled (R92). -/
theorem State.needsGapProbe_probing (hp : (s.node n).state = .probing) : s.needsGapProbe n = true ↔
    (s.node n).gapMark = false ∧
      ∀ k : SlotIx, k.val < s.engine.latchedLen → s.slots[k].enabled = true → s.slots[k].node ≠ n := by
  rw [State.needsGapProbe_iff, State.not_scheduled_iff, Node.probe_iff, and_comm (a := ∀ k : SlotIx, _)]
  exact and_iff_right (.inl hp)

/-! ## NODE_ENABLE -/

theorem exec_nodeEnable (h : s.writingAt 0x009) (harg : s.cmd.arg.toNat = n.val) :
    exec .nodeEnable s = .next ((s.nodeEnable n).modPort Port.acked).handOverRetry := by
  rw [exec_command (b := Config.codeNodeEnable) rfl h, State.command_nodeEnable, State.cmdNode_named harg]
  rfl

theorem State.enableNode_eq (h : (s.node n).state = .disabled) : s.enableNode n =
    (s.modNode n fun _ => { s.node n with
      state := .probing, failCount := 0, seq := false, alert := false, matchState := false, reprobe := 0
      inputAge := 255, lastOutcome := none, lastStatus := 0, reportedType := 0, reportedOut := 0, reportedIn := 0
      input := Vector.replicate 8 0, due := false, baseline := false }).emits
      [(.nodeState, BitVec.ofNat 8 n.val, 1, 0)] := by
  have hdoes := s.does_update_enterState n (fun x => { x with
    failCount := 0, seq := false, alert := false, matchState := false, reprobe := 0, inputAge := 255
    lastOutcome := none, lastStatus := 0, reportedType := 0, reportedOut := 0, reportedIn := 0
    input := Vector.replicate 8 0, due := false, baseline := false }) .probing
  rw [show (s.node n).state = .disabled from h] at hdoes
  exact hdoes

/-- Settles O49: the two checks, then the node's enabling, whose end is the boundary where a gap probe is needed. -/
theorem nodeEnableTakesIntoService : Obligations.NodeEnableTakesIntoService := by
  intro s n hw harg port x bad enabled needsGapProbe
  have hlegal : (s.enableLegal n = true) ↔ ¬ bad := by
    simp only [State.enableLegal_iff, ← Bool.not_eq_true, State.duplicate_iff, Node.place, Prod.mk.injEq, bad, not_or, not_lt,
      and_assoc]
    rfl
  have hrow := exec_nodeEnable hw harg
  let v : State := (s.answer .ok).enableNode n
  have hport (h : x.state = .disabled) : v.modPort Port.acked = enabled := by
    have hv : v = _ := State.enableNode_eq (s := s.answer .ok) h
    rw [hv, State.emits_modPort]
    rfl
  have hnode : v.node n = _ := State.enableNode_node (s.answer .ok) n
  have hneeds (h : x.state = .disabled) : v.needsGapProbe n = true ↔ needsGapProbe := by
    have hv : v = _ := State.enableNode_eq (s := s.answer .ok) h
    have hslots : v.slots = s.slots := by rw [hv, State.emits_eq]; rfl
    have hengine : v.engine = s.engine := by rw [hv, State.emits_engine]; rfl
    rw [State.needsGapProbe_probing (by rw [hnode]), hnode, hslots, hengine]
    rfl
  have haccepted (h : x.state = .disabled) (hb : ¬ bad) : exec .nodeEnable s = .next (v.probingEnd n Port.acked) := by
    rw [hrow, State.nodeEnable, if_neg (not_not_intro h), if_pos (hlegal.2 hb)]
    rfl
  have hwork (h : x.state = .disabled) : v.link = s.link ∧ v.engine = s.engine := by
    have hv : v = _ := State.enableNode_eq (s := s.answer .ok) h
    exact ⟨by rw [hv, State.emits_link]; rfl, by rw [hv, State.emits_engine]; rfl⟩
  refine ⟨fun h => ?_, fun h hb => ?_, fun h hb hbusy => ?_, fun h hb hwait hidle => ⟨fun hn => ?_, fun hn => ?_⟩, fun h hb => ?_⟩
  · rw [hrow, State.nodeEnable, if_pos h]
    rfl
  · rw [hrow, State.nodeEnable, if_neg (not_not_intro h), if_neg fun hl => hlegal.1 hl hb]
    rfl
  · obtain ⟨hlink, hengine⟩ := hwork h
    rw [haccepted h hb, State.probingEnd_busy, hport h]
    rwa [hlink, hengine]
  · obtain ⟨hlink, hengine⟩ := hwork h
    rw [haccepted h hb, State.probingEnd_needed _ (by rw [hengine, hwait]) (by rw [hlink, hidle]) ((hneeds h).2 hn), hport h]
  · obtain ⟨hlink, hengine⟩ := hwork h
    rw [haccepted h hb, State.probingEnd_unneeded _ (by rw [hlink, hidle]) fun hp => hn ((hneeds h).1 hp), hport h]
  · obtain ⟨hlink, hengine⟩ := hwork h
    have hkept := v.kept_probingEnd n Port.acked
    have hchosen := v.chosen_probingEnd n Port.acked
    have hlast := v.probingEnd_engine n Port.acked
    refine ⟨_, haccepted h hb, hport h ▸ hkept, ?_, hport h ▸ hchosen.cmd, ?_⟩
    · have hstate := congrArg Node.state (hchosen.node n)
      refine Eq.trans (b := (v.node n).state) hstate ?_
      rw [hnode]
    · rw [hlast, ← hport h]
      rfl

/-! ## SUBMIT -/

theorem exec_submit (h : Byte) (hw : s.writingAt 0x039) : exec (.submit h) s =
    .next ((s.withHandle h State.submitEntry).modPort Port.tookByte).handOverRetry :=
  exec_writing_at (c := .submit h) rfl (r := .txnSubmit) (by decide) hw

theorem entryOf_toNat (h : Byte) : (entryOf h).val = h.toNat % 8 := by
  revert h
  decide

theorem Txn.nodeIx_val (x : Txn) (h : x.node.toNat ≤ 15) : x.nodeIx.val = x.node.toNat :=
  Nat.mod_eq_of_lt (Nat.lt_succ_of_le h)

/-- A request may be submitted where its ranges are legal and its node is in service (R134). -/
theorem State.submittable_iff (s : State) (x : Txn) : s.submittable x = true ↔
    x.node.toNat ≤ 15 ∧ (x.op = 1 ∨ x.op = 2 ∨ x.op = 3) ∧ (x.op = 3 ∨ (1 ≤ x.count.toNat ∧ x.count.toNat ≤ 8)) ∧
      (s.node x.nodeIx).state ≠ .disabled := by
  simp [State.submittable, Txn.rangesLegal, and_assoc, or_assoc]

/-- A handle that passes its check is the one its entry has (R130). -/
theorem State.handle_of_valid {h : Byte} (hv : s.handleValid h = true) : s.handle (entryOf h) = h := by
  obtain ⟨hbit, hgen⟩ := (s.handleValid_iff h).1 hv
  apply BitVec.eq_of_toNat_eq
  rw [State.handle, handleOf_eq_ofNat, BitVec.toNat_ofNat, ← hgen, entryOf_toNat]
  omega

/-- The state in which an entry has been queued at the tail (R134, R135). -/
def State.queued (s : State) (e : TxnIx) : State :=
  { s with txns := s.txns.set e { s.txn e with state := .queued }, order := s.order ++ [e] }

theorem exec_submit_legal {h : Byte} (hw : s.writingAt 0x039) (hv : s.handleValid h = true)
    (hr : (s.txn (entryOf h)).state = .reserved) (hl : s.submittable (s.txn (entryOf h)) = true) : exec (.submit h) s =
    .next (if s.link.work = none then ((s.queued (entryOf h)).modPort Port.tookByte).choose
      else ((s.queued (entryOf h)).modPort Port.tookByte).handOverRetry) := by
  rw [exec_submit h hw, State.withHandle_valid hv, State.submitEntry, if_neg (not_not_intro hr), if_pos hl]
  exact congrArg Host.Outcome.next (State.idleBoundary_took (s.queued (entryOf h)) Port.tookByte)

/-- The toggle of a new request of a transaction (R12). -/
theorem newToggle_opOf (x : Node) {b : Byte} (hb : b = 1 ∨ b = 2 ∨ b = 3) :
    x.newToggle (opOf b) = if b = 3 then false else !x.seq := by
  obtain rfl | rfl | rfl := hb <;> rfl

theorem State.latch_queued (s : State) (e : TxnIx) (f : Port → Port) (k : Byte) (op : LinkOp) (n : NodeIx) (toggle : Bool)
    (hk : entryOf k = e) :
    ((s.queued e).modPort f).latch (.txn k) op n toggle = s.latch (.txn k) op n toggle := by
  cases op <;> simp [State.latch, State.requestPayload, State.replyLength, State.profileOf, State.node, State.txn,
    State.queued, State.modPort, hk]

theorem State.not_urgent_of_notDue (h : (s.node n).due = false) : ¬ s.urgent n := fun hu => by
  rw [State.urgent, h] at hu
  cases hu.1

/-- With no refresh due and no request queued a STOPPED engine has no work (R91). -/
theorem State.choose_nothing (hs : s.engine.state = .stopped) (hdue : ∀ n, (s.node n).due = false) (ho : s.order = []) :
    s.choose = s := by
  have hnone (n : NodeIx) := State.not_urgent_of_notDue (hdue n)
  rw [State.choose_resting (.inl hs) (.inr hnone), State.tryTxn_absent ho]
  show s.tryUrgent.getD s = s
  rw [State.tryUrgent_none hnone]
  rfl

/-- A picked request handed over: entry `e`, which holds `x`, under its handle `k`, with exchange `y` in flight (R136). -/
def State.picked (s : State) (e : TxnIx) (k : Byte) (x : Txn) (toggle : Bool) (y : Exchange) : State :=
  State.withExchange { s with
    order := [], txns := s.txns.set e { x with state := .active }, link := { s.link with prev := .txn } }
    { cls := .txn k, op := opOf x.op, node := x.nodeIx, toggle := toggle, attempt := 1, suppressed := false, nodeCmd := none
      phase := .inFlight y } y

/-- A request alone in the order of a STOPPED engine, no refresh being due, is picked: handed over, or ended where its node is
not of class CYCLIC (R91, R94, R137). -/
theorem State.choose_alone_cyclic {e : TxnIx} (hs : s.engine.state = .stopped) (hdue : ∀ n, (s.node n).due = false)
    (ho : s.order = [e]) (hc : (s.node (s.txn e).nodeIx).serviceClass = .cyclic) :
    s.choose = s.picked e (s.handle e) (s.txn e) ((s.node (s.txn e).nodeIx).newToggle (opOf (s.txn e).op))
      (s.latch (.txn (s.handle e)) (opOf (s.txn e).op) (s.txn e).nodeIx
        ((s.node (s.txn e).nodeIx).newToggle (opOf (s.txn e).op))) := by
  rw [State.choose_resting (.inl hs) (.inr fun n => State.not_urgent_of_notDue (hdue n)), State.tryTxn_cyclic ho hc]
  show State.startWork _ _ _ _ = _
  rw [State.startWork_eq, State.newWork, State.latch_activated]
  rfl

theorem State.choose_alone_other {e : TxnIx} (hs : s.engine.state = .stopped) (hdue : ∀ n, (s.node n).due = false)
    (ho : s.order = [e]) (hc : ¬ (s.node (s.txn e).nodeIx).serviceClass = .cyclic) :
    s.choose = ({ s with order := [] } : State).failUnavailable e := by
  rw [State.choose_unavailable (.inr fun n => State.not_urgent_of_notDue (hdue n)) (.inr (.inl hs)) ho hc]
  refine State.choose_nothing ?_ (fun n => ?_) ?_
  · rw [State.failUnavailable_eq, State.emit_engine]
    exact hs
  · rw [State.failUnavailable_eq, State.emit_node]
    exact hdue n
  · rw [State.failUnavailable_eq, State.emit_order]

/-- Settles O55: the checks in their order, the queued entry, and the pick of one that is alone. -/
theorem submitQueuesRequest : Obligations.SubmitQueuesRequest := by
  refine ⟨entryOf_toNat, fun s e => ?_, Txn.nodeIx_val, fun s h hw => ?_⟩
  · rw [State.handle, handleOf_eq_ofNat, BitVec.toNat_ofNat]
    omega
  intro e x valid legal refused
  have hcheck : s.handleValid h = true ↔ valid := s.handleValid_iff h
  have hlegal : s.submittable x = true ↔ legal := s.submittable_iff x
  refine ⟨fun hbad => ?_, fun hv hr hl => ?_, fun hv hr hl hbusy => ?_, fun hv hr hl hidle => ?_,
    fun hv hr hl hidle hs ho hdue => ?_⟩
  · have hraise : s.withHandle h State.submitEntry = s.raiseHere .badHandle := by
      by_cases hv : s.handleValid h = true
      · rw [State.withHandle_valid hv, State.submitEntry]
        exact if_pos (hbad.resolve_left (not_not_intro (hcheck.1 hv)))
      · exact State.withHandle_invalid hv _
    rw [exec_submit h hw, hraise, State.raiseHere_took hw]
  · rw [exec_submit h hw, State.withHandle_valid (hcheck.2 hv), State.submitEntry, if_neg (not_not_intro hr),
      if_neg fun hsub => hl (hlegal.1 hsub), State.raiseHere_took hw]
  · rw [exec_submit_legal hw (hcheck.2 hv) hr (hlegal.2 hl), if_neg hbusy]
    rfl
  · rw [exec_submit_legal hw (hcheck.2 hv) hr (hlegal.2 hl), if_pos hidle]
    rfl
  · let v : State := (s.queued e).modPort Port.tookByte
    have horder : v.order = [e] := by
      show s.order ++ [e] = [e]
      rw [ho]
      rfl
    have hentry : v.txn e = { x with state := .queued } := s.setTxn_txn_same e _
    have hhandle : v.handle e = h := by
      rw [State.handle, hentry]
      exact State.handle_of_valid (hcheck.2 hv)
    have hset (y : Txn) : v.txns.set e y = s.txns.set e y := by simp [v, State.queued]
    have hrow : exec (.submit h) s = .next v.choose := by
      rw [exec_submit_legal hw (hcheck.2 hv) hr (hlegal.2 hl), if_pos hidle]
    by_cases hc : (s.node x.nodeIx).state = .online ∨ (s.node x.nodeIx).state = .suspect
    · have hclass : (v.node (v.txn e).nodeIx).serviceClass = .cyclic := by
        rw [hentry]
        exact (Node.cyclic_iff _).2 hc
      have htoggle : (v.node x.nodeIx).newToggle (opOf x.op) = if x.op = 3 then false else !(s.node x.nodeIx).seq :=
        newToggle_opOf _ hl.2.1
      have hchoice := State.choose_alone_cyclic (s := v) hs hdue horder hclass
      rw [hhandle, hentry] at hchoice
      have hpicked : v.choose = v.picked e h { x with state := .queued } (if x.op = 3 then false else !(s.node x.nodeIx).seq)
          (s.latch (.txn h) (opOf x.op) x.nodeIx (if x.op = 3 then false else !(s.node x.nodeIx).seq)) := by
        rw [hchoice, ← htoggle]
        exact congrArg (v.picked e h { x with state := .queued } _) (s.latch_queued e Port.tookByte h _ _ _ rfl)
      have hactive : v.txns.set e { x with state := .active } = s.txns.set e { x with state := .active } := hset _
      refine ⟨_, hrow.trans (congrArg Host.Outcome.next hpicked), rfl, ?_⟩
      rw [if_pos hc]
      refine ⟨congrArg Txn.state (v.setTxn_txn_same e { x with state := .active }), ?_⟩
      rw [State.picked, hactive, ← ho]
      rfl
    · have hclass : ¬ (v.node (v.txn e).nodeIx).serviceClass = .cyclic := by
        rw [hentry]
        exact fun hcyc => hc ((Node.cyclic_iff _).1 hcyc)
      have hchoice := State.choose_alone_other (s := v) hs hdue horder hclass
      refine ⟨_, hrow, ?_, ?_⟩
      · rw [hchoice, State.failUnavailable_eq, State.emit_order]
      · rw [if_neg hc, hchoice, State.failUnavailable_eq]
        show State.emit { v with
          order := [], txns := v.txns.set e { v.txn e with
            state := .failed, result := some .nodeUnavailable, attempts := 0, replyStatus := 0
            rdata := Vector.replicate 8 0, cancelMark := false } } .txnEnd (v.txn e).node (v.handle e) 6 = _
        rw [hset, hentry, hhandle]
        exact congrArg (fun o => State.emit { s with
            txns := s.txns.set e { x with
              state := .failed, result := some .nodeUnavailable, attempts := 0, replyStatus := 0
              rdata := Vector.replicate 8 0, cancelMark := false }
            port := s.port.tookByte, order := o } .txnEnd x.node h 6) ho.symm

end Sys2Proof.Machine
end

section
/-! SUPPORT. A pending retry withdrawn: the last completed attempt's outcome evaluated in full, the request's own effect, and
the choice (R18); with the statement about STOP_SCAN. -/

namespace Sys2Proof.Machine

variable {s t u v : State} {n : NodeIx} {w : WorkItem} {r : Completion}

/-! ## The evaluation of the last attempt -/

/-- What agreement gives about work item `w` and the record `r` of its last attempt, where its retry waits (R17, R18). -/
structure State.LastOk (s : State) (w : WorkItem) (r : Completion) : Prop where
  node : r.node = w.node
  op : r.op = w.op
  failed : r.outcome ≠ .ok
  count : (s.node w.node).failCount ≤ 15
  cyclic : w.op = .cyclic → (s.node w.node).state = .online ∨ (s.node w.node).state = .suspect
  heard : (∀ k, w.cls ≠ .txn k) → w.op = .cyclic ∨ (w.op = .ident ∧ (s.node w.node).matchState = false)
  handle : ∀ k, w.cls = .txn k → s.handle (entryOf k) = k

theorem State.lastOk_of_sound (hs : s.sound = true) (hw : s.link.work = some w) (hr : w.phase = .retryPending r) :
    s.LastOk w r := by
  obtain ⟨-, hinv⟩ := State.inv_of_sound hs
  have hitem := hinv.work.item w hw
  have hattempt := hinv.work.attempt w hw
  obtain ⟨hnode, hop⟩ := hattempt.parts.2 r hr
  have hold := hinv.nodes w.node
  refine ⟨hnode, hop, fun hok => ?_, hold.count, hitem.identified, fun hcls => ?_, fun k hk => hitem.handle_txn hk⟩
  · rw [State.AttemptOk, hr] at hattempt
    simp [State.retryAgrees, hok, LinkOutcome.retryable] at hattempt
  · obtain ⟨hcyclic, -⟩ | ⟨hident, -⟩ := hitem.fits.suits hcls
    · exact .inl hcyclic
    · exact .inr ⟨hident, hold.matchState_of_probed (hitem.probed hident hcls)⟩

/-- Only the nodes, the generations and the work item's own node, op and class matter. -/
theorem State.LastOk.congr {w' : WorkItem} (h : s.LastOk w r) (hnodes : t.nodes = s.nodes)
    (hgen : ∀ e, (t.txn e).gen = (s.txn e).gen) (hnode : w'.node = w.node) (hop : w'.op = w.op) (hcls : w'.cls = w.cls) :
    t.LastOk w' r := by
  have hsame : t.node w'.node = s.node w.node := by rw [hnode, State.node_congr hnodes]
  obtain ⟨hn, ho, hfailed, hcount, hcyclic, hheard, hhandle⟩ := h
  refine ⟨hn.trans hnode.symm, ho.trans hop.symm, hfailed, ?_, ?_, ?_, fun k hk => ?_⟩
  · rwa [hsame]
  · rwa [hop, hsame]
  · rwa [hop, hcls, hsame]
  · rw [State.handle, hgen]
    exact hhandle k (hcls ▸ hk)

theorem Txn.ended_failed (x : Txn) (h : r.outcome ≠ .ok) : x.ended r = x.afterLastAttempt r := by
  simp only [Txn.ended, h, if_false]
  rfl

theorem Node.afterTxn_failed (x : Node) (op : LinkOp) (h : r.outcome ≠ .ok) : x.afterTxn op r = x :=
  if_neg fun hboth => h hboth.2

/-- The outcome of the last attempt evaluated by supervision (R41 to R47, R51, R52). -/
theorem State.LastOk.does_supervise (h : s.LastOk w r) (hcls : ∀ k, w.cls ≠ .txn k) :
    State.Does w.node s ((s.node w.node).afterLastAttempt s.engine w.op r)
      (alertEvents w.node (s.node w.node).alert r.status ++
        stateEvents w.node (s.node w.node).state ((s.node w.node).afterLastAttempt s.engine w.op r).state) (s.supervise r) := by
  obtain ⟨hn, hop, hfailed, hcount, hcyclic, hheard, -⟩ := h
  rw [← hn] at hcount hcyclic hheard ⊢
  obtain hc | ⟨hi, hmatch⟩ := hheard hcls
  · have hdoes := State.does_supervise_cyclic (hop.trans hc) (hcyclic hc) hcount
    rw [Node.afterCyclic, if_neg hfailed, if_neg hfailed, List.append_nil] at hdoes
    rwa [hc]
  · have hdoes := State.does_supervise_probe (hop.trans hi) hcount hmatch
    rw [Node.afterProbe, if_neg hfailed] at hdoes
    rwa [hi]

/-- The end of a work item at a withdrawal is the evaluation of its last attempt, with the request's effect (R18, R86). -/
theorem State.LastOk.finishWork (h : s.LastOk w r) : s.finishWork w r = s.withdrawn w r := by
  let l : Link := { s.link with work := none }
  have hv : (s.modLink fun l => { l with work := none }) =
      { s with link := l, nodes := s.nodes.set w.node (s.node w.node) } := by
    have hself : s.nodes.set w.node (s.node w.node) = s.nodes :=
      congrArg State.nodes (s.modNode_same w.node (fun x => x) rfl)
    rw [hself]
    rfl
  have hheard (hcls : ∀ k, w.cls ≠ .txn k) := State.finishWork_supervised hcls hv
    ((h.congr (t := s.modLink fun l => { l with work := none }) rfl (fun _ => rfl) rfl rfl rfl).does_supervise hcls)
  cases hc : w.cls with
  | txn k =>
    rw [State.finishWork_txn hc h.node hv, resultField_ended, if_neg h.failed, Txn.ended_failed _ h.failed,
      Node.afterTxn_failed _ _ h.failed, stateEvents_self, h.handle k hc, State.withdrawn, hc]
    rfl
  | slot =>
    rw [hheard (by simp [hc]), State.withdrawn, hc]
    rfl
  | urgent =>
    rw [hheard (by simp [hc]), State.withdrawn, hc]
    rfl
  | gapProbe =>
    rw [hheard (by simp [hc]), State.withdrawn, hc]
    rfl

/-! ## The withdrawal -/

theorem State.withdrawRetry_pending (hw : s.link.work = some w) (hr : w.phase = .retryPending r) :
    s.withdrawRetry = (s.finishWork w r).choose := by
  rw [State.withdrawRetry, hw]
  simp only [hr]

theorem State.withdrawRetry_inFlight {x : Exchange} (hw : s.link.work = some w) (hx : w.phase = .inFlight x) :
    s.withdrawRetry = s := by
  rw [State.withdrawRetry, hw]
  simp only [hx]

/-- The end of a work item takes the work item away, whatever it was left as. -/
theorem State.finishWork_suppressed (s : State) (w : WorkItem) (r : Completion) (x : Option WorkItem) (b : Bool) :
    (s.modLink fun l => { l with work := x }).finishWork { w with suppressed := b } r = s.finishWork w r := rfl

/-- A withdrawal within a byte: the choice is made after it. -/
theorem State.finishWork_took (s : State) (w : WorkItem) (r : Completion) (f : Port → Port) :
    ((s.finishWork w r).choose.modPort f).handOverRetry = ((s.finishWork w r).modPort f).choose :=
  State.choose_took (by rw [State.finishWork_link]) f

theorem State.atBoundary_modPort (s : State) (f : Port → Port) (w : WorkItem) (x : Node) (g : Engine) (es : List Event) :
    (s.modPort f).atBoundary w x g es = (s.atBoundary w x g es).modPort f := by
  rw [State.atBoundary, State.atBoundary, State.emits_modPort]
  rfl

theorem State.withdrawn_modPort (s : State) (f : Port → Port) (w : WorkItem) (r : Completion) :
    (s.modPort f).withdrawn w r = (s.withdrawn w r).modPort f := by
  rw [State.withdrawn, State.withdrawn]
  cases w.cls with
  | txn k =>
    have hmove := State.atBoundary_modPort
      { s with txns := s.txns.set (entryOf k) ((s.txn (entryOf k)).afterLastAttempt r) } f
    exact congrArg (fun u : State => { u with link := { s.link with work := none } }) (hmove _ _ _ _)
  | _ => exact congrArg (fun u : State => { u with link := { s.link with work := none } }) (s.atBoundary_modPort f _ _ _ _)

/-- A request that withdraws a retry, within a byte: the evaluation of the last attempt, the request's effect, the choice. -/
theorem State.LastOk.withdraws (h : s.LastOk w r) (f : Port → Port) :
    ((s.finishWork w r).choose.modPort f).handOverRetry = ((s.modPort f).withdrawn w r).choose := by
  rw [State.finishWork_took, h.finishWork, State.withdrawn_modPort]

/-! ## What the end of a work item leaves -/

theorem State.ownerEvaluates_kept (s : State) (c : WorkClass) (r : Completion) :
    (s.ownerEvaluates c r).cmd = s.cmd ∧ (s.ownerEvaluates c r).engine.state = s.engine.state ∧
      (s.ownerEvaluates c r).engine.timer = s.engine.timer ∧ (s.ownerEvaluates c r).order = s.order := by
  obtain ⟨-, -, hengine, -, -, horder, -, -, hcmd, -⟩ := (s.only_supervise r).fields
  have hstate := congrArg Engine.state hengine
  have htimer := congrArg Engine.timer hengine
  cases c with
  | txn k =>
    rw [State.ownerEvaluates, State.endTxn_eq s (entryOf k) rfl]
    simp only [State.emits_cmd, State.emits_engine, State.emits_order, true_and]
  | slot => exact ⟨hcmd, hstate, htimer, horder⟩
  | urgent => exact ⟨hcmd, hstate, htimer, horder⟩
  | gapProbe => exact ⟨hcmd, hstate, htimer, horder⟩

/-- CMD_STATUS after the end of a work item (R28). -/
def CmdRegs.finished (c : CmdRegs) (command : Option NodeCmd) (g : EngineState) : CmdRegs :=
  let c' := if command ≠ none then c.completed .nodeCommand else c
  if g = .draining then c'.completed .stopScan else c'

/-- The end of a work item, whatever its owner made of it: its node takes the waiting command, an engine in DRAINING stops. -/
theorem State.finishWork_shape (s : State) (w : WorkItem) (r : Completion) :
    let u := (s.modLink fun l => { l with work := none }).ownerEvaluates w.cls r
    ∃ es, s.finishWork w r = State.emits { u.modNode w.node fun x => x.afterCommand w.nodeCmd with
      engine := if s.engine.state = .draining then
        { u.engine with state := .stopped, timer := none, evaluated := 0, failed := 0, dropped := 0 } else u.engine
      cmd := s.cmd.finished w.nodeCmd s.engine.state } es := by
  intro u
  obtain ⟨hcmd, hstate, -, -⟩ : u.cmd = s.cmd ∧ u.engine.state = s.engine.state ∧ _ := State.ownerEvaluates_kept _ _ _
  let es := stateEvents w.node (u.node w.node).state ((u.node w.node).afterCommand w.nodeCmd).state
  have hcommand := u.completeNodeCmd_emits [] w
  rw [State.emits_nil, List.nil_append] at hcommand
  rw [State.finishWork, show State.ownerEvaluates _ _ _ = u from rfl, hcommand, State.stopIfDraining_emits]
  by_cases hd : s.engine.state = .draining
  · refine ⟨es ++ stopEvents u.engine.dropped, (if_pos (hstate.trans hd)).trans ?_⟩
    rw [CmdRegs.finished, if_pos hd, if_pos hd, ← hcmd]
    rfl
  · refine ⟨es, (if_neg fun h => hd (hstate.symm.trans h)).trans ?_⟩
    rw [CmdRegs.finished, if_neg hd, if_neg hd, ← hcmd]
    rfl

theorem State.finishWork_cmd (s : State) (w : WorkItem) (r : Completion) :
    (s.finishWork w r).cmd = s.cmd.finished w.nodeCmd s.engine.state := by
  obtain ⟨es, h⟩ := s.finishWork_shape w r
  rw [h, State.emits_cmd]

/-- An engine in DRAINING stops at the end of the work item (R80). -/
theorem State.finishWork_stopped (w : WorkItem) (r : Completion) (h : s.engine.state = .draining) :
    (s.finishWork w r).engine.state = .stopped ∧ (s.finishWork w r).engine.timer = none := by
  obtain ⟨es, he⟩ := s.finishWork_shape w r
  rw [he, State.emits_engine, if_pos h]
  exact ⟨rfl, rfl⟩

/-- The node command takes its effect at the end of the work item (R32, R34). -/
theorem State.finishWork_node (s : State) (w : WorkItem) (r : Completion) : (s.finishWork w r).node w.node =
    (((s.modLink fun l => { l with work := none }).ownerEvaluates w.cls r).node w.node).afterCommand w.nodeCmd := by
  obtain ⟨es, h⟩ := s.finishWork_shape w r
  rw [h, State.emits_node]
  exact ((s.modLink fun l => { l with work := none }).ownerEvaluates w.cls r).modNode_node_same w.node
    fun x => x.afterCommand w.nodeCmd

theorem State.suppress_eq (hw : s.link.work = some w) :
    s.suppress = s.modLink fun l => { l with work := some { w with suppressed := true } } := by
  simp only [State.suppress, State.modLink, hw, Option.map_some]

/-! ## STOP_SCAN -/

theorem State.command_stopScan (s : State) : s.command Config.codeStopScan = s.cmdStopScan := by
  unfold State.command
  rw [if_neg (by decide), if_pos rfl]

theorem exec_stopScan (h : s.writingAt 0x009) :
    exec .stopScan s = .next (s.cmdStopScan.modPort Port.acked).handOverRetry := by
  rw [exec_command (b := Config.codeStopScan) rfl h, State.command_stopScan]
  rfl

/-- Settles O45: at rest the engine stops at once; in CYCLING the attempt in flight is drained, a retry withdrawn. -/
theorem stopScanStopsEngine : Obligations.StopScanStopsEngine := by
  intro s hw port answered reported announced
  have hrow := exec_stopScan hw
  let pend : State := { s with
    cmd := { s.cmd with status := .pending, awaited := some .stopScan }, engine := { s.engine with state := .draining } }
  have hpend {w : WorkItem} (hc : s.engine.state = .cycling) (hwork : s.link.work = some w) : s.cmdStopScan =
      (pend.modLink fun l => { l with work := some { w with suppressed := true } }).withdrawRetry := by
    have hbusy : ¬ s.link.idle = true := by simp [Link.idle, hwork]
    rw [State.cmdStopScan, hc]
    refine (if_neg hbusy).trans (congrArg State.withdrawRetry ?_)
    exact State.suppress_eq (s := (s.answerPending .stopScan).modEngine fun g => { g with state := .draining }) hwork
  have hdrain {w : WorkItem} {r : Completion} (hc : s.engine.state = .cycling) (hwork : s.link.work = some w)
      (hr : w.phase = .retryPending r) : s.cmdStopScan = (pend.finishWork w r).choose := by
    rw [hpend hc hwork, State.withdrawRetry_pending (w := { w with suppressed := true }) rfl hr, State.finishWork_suppressed]
  refine ⟨fun h => ?_, fun h => ?_, fun w x hc hwork hx => ?_, fun w r hc hwork hr => ?_, fun w r hs hc hwork hr => ?_⟩
  · have hrefuse : s.cmdStopScan = s.refuseCommand := by obtain h | h := h <;> rw [State.cmdStopScan, h]
    rw [hrow, hrefuse]
    rfl
  · have hstop : s.cmdStopScan = (s.answer .ok).enterStopped := by
      obtain h | ⟨hc, hidle⟩ := h
      · rw [State.cmdStopScan, h]
      · rw [State.cmdStopScan, hc]
        exact if_pos (by rw [Link.idle, hidle]; rfl)
    have hreported : reported = answered.emits
        (if 0 < s.engine.dropped then [(.cycleOverrun, 0xFF, BitVec.ofNat 8 s.engine.dropped, 0)] else []) := by
      show (if 0 < s.engine.dropped then _ else answered) = _
      split <;> rfl
    let stop (g : Engine) : Engine := { g.clearCounts with timer := none, state := .stopped }
    have hannounced : ((s.answer .ok).enterStopped).modPort Port.acked = announced.modEngine stop := by
      rw [State.enterStopped_eq, State.emits_modPort]
      show (answered.modEngine stop).emits _ = (reported.emits [(.scanState, 0xFF, 0, 2)]).modEngine stop
      rw [hreported, ← State.emits_append, State.emits_modEngine _ _ stop fun _ => rfl]
      rfl
    have hengine : announced.engine = s.engine := by
      show (reported.emits [(.scanState, 0xFF, 0, 2)]).engine = _
      rw [hreported, State.emits_engine, State.emits_engine]
    rw [hrow, hstop, hannounced, State.modEngine, hengine]
    rfl
  · rw [hrow, hpend hc hwork, State.withdrawRetry_inFlight (w := { w with suppressed := true }) rfl hx]
    rfl
  · have hstopped := State.finishWork_stopped (s := pend) w r rfl
    have hcmd : (pend.finishWork w r).cmd = { s.cmd with status := .ok, awaited := none } := by
      rw [State.finishWork_cmd]
      cases w.nodeCmd <;> rfl
    have hchosen := State.chosen_choose ((pend.finishWork w r).modPort Port.acked)
    have hport := (State.kept_choose ((pend.finishWork w r).modPort Port.acked)).port
    have hkept := (pend.kept_finishWork w r).port
    refine ⟨_, ?_, ?_, hchosen.timer.trans hstopped.2, hchosen.cmd.trans hcmd, hport.trans ?_⟩
    · rw [hrow, hdrain hc hwork hr, State.finishWork_took]
    · obtain h | ⟨h, -⟩ := hchosen.running
      · exact h.trans hstopped.1
      · cases h.symm.trans hstopped.1
    · rw [State.modPort_port, hkept]
      rfl
  · have hlast : pend.LastOk w r :=
      (State.lastOk_of_sound hs hwork hr).congr (t := pend) rfl (fun _ => rfl) rfl rfl rfl
    rw [hrow, hdrain hc hwork hr, hlast.withdraws]
    rfl

end Sys2Proof.Machine
end

section
/-! SUPPORT. NODE_DISABLE, NODE_REPROBE and CANCEL: refused, immediate, behind an attempt in flight, and with a pending retry
withdrawn; with their statements. -/

namespace Sys2Proof.Machine

variable {s t u v : State} {n : NodeIx} {w : WorkItem} {r : Completion}

/-! ## The two node commands -/

theorem exec_nodeDisable (h : s.writingAt 0x009) (harg : s.cmd.arg.toNat = n.val) :
    exec .nodeDisable s = .next ((s.nodeDisable n).modPort Port.acked).handOverRetry := by
  rw [exec_command (b := Config.codeNodeDisable) rfl h, State.command_nodeDisable, State.cmdNode_named harg]
  rfl

theorem exec_nodeReprobe (h : s.writingAt 0x009) (harg : s.cmd.arg.toNat = n.val) :
    exec .nodeReprobe s = .next ((s.nodeReprobe n).modPort Port.acked).handOverRetry := by
  rw [exec_command (b := Config.codeNodeReprobe) rfl h, State.command_nodeReprobe, State.cmdNode_named harg]
  rfl

theorem State.workOf_none (h : ∀ w, s.link.work = some w → w.node ≠ n) : s.workOf n = none := by
  cases hw : s.workOf n with
  | none => rfl
  | some w =>
    obtain ⟨hwork, hn⟩ := State.workOf_eq_some.1 hw
    exact absurd hn (h w hwork)

/-- A node command that waits for the work item in progress, whose retries are suppressed (R32, R34). -/
def State.waits (s : State) (w : WorkItem) (c : NodeCmd) : State :=
  (s.answerPending .nodeCommand).modLink fun l =>
    { l with work := some { w with nodeCmd := some c, suppressed := true } }

theorem State.pendNodeCmd_eq (c : NodeCmd) (hw : s.link.work = some w) : s.pendNodeCmd c = (s.waits w c).withdrawRetry := by
  refine congrArg State.withdrawRetry ?_
  simp only [State.waits, State.modLink, State.answerPending, hw, Option.map_some]

theorem State.pendNodeCmd_inFlight {x : Exchange} (c : NodeCmd) (hw : s.link.work = some w) (hx : w.phase = .inFlight x) :
    s.pendNodeCmd c = s.waits w c := by
  rw [State.pendNodeCmd_eq c hw]
  exact State.withdrawRetry_inFlight (w := { w with nodeCmd := some c, suppressed := true }) rfl hx

theorem State.pendNodeCmd_pending (c : NodeCmd) (hw : s.link.work = some w) (hr : w.phase = .retryPending r) :
    s.pendNodeCmd c = ((s.answerPending .nodeCommand).finishWork { w with nodeCmd := some c } r).choose := by
  rw [State.pendNodeCmd_eq c hw,
    State.withdrawRetry_pending (w := { w with nodeCmd := some c, suppressed := true }) rfl hr]
  exact congrArg State.choose
    ((s.answerPending .nodeCommand).finishWork_suppressed { w with nodeCmd := some c } r _ true)

/-- A node command that withdraws a retry takes its effect at once and answers OK (R32, R34). -/
theorem State.pendNodeCmd_withdraws (c : NodeCmd) (hw : s.link.work = some w) (hn : w.node = n)
    (hr : w.phase = .retryPending r) : ∃ (t : State) (x : Node),
      ((s.pendNodeCmd c).modPort Port.acked).handOverRetry = t ∧ (t.node n).apart = (x.afterCommand (some c)).apart ∧
        t.port = s.port.acked ∧ t.cmd = { s.cmd with status := .ok, awaited := none } := by
  subst hn
  let w' : WorkItem := { w with nodeCmd := some c }
  let v : State := (s.answerPending .nodeCommand).finishWork w' r
  have hnode := (s.answerPending .nodeCommand).finishWork_node w' r
  have hcmd : v.cmd = { s.cmd with status := .ok, awaited := none } := by
    refine ((s.answerPending .nodeCommand).finishWork_cmd w' r).trans ?_
    simp [CmdRegs.finished, CmdRegs.completed, State.answerPending, w']
  have hchosen := State.chosen_choose (v.modPort Port.acked)
  have hport := (State.kept_choose (v.modPort Port.acked)).port
  have hkept := ((s.answerPending .nodeCommand).kept_finishWork w' r).port
  refine ⟨(v.modPort Port.acked).choose, _, ?_, (hchosen.node w.node).trans (congrArg Node.apart hnode), hport.trans ?_,
    hchosen.cmd.trans hcmd⟩
  · rw [State.pendNodeCmd_pending c hw hr, State.finishWork_took]
  · rw [State.modPort_port, hkept]
    rfl

theorem State.pendNodeCmd_sound (c : NodeCmd) (hs : s.sound = true) (hw : s.link.work = some w)
    (hr : w.phase = .retryPending r) : ((s.pendNodeCmd c).modPort Port.acked).handOverRetry =
      (((s.answerPending .nodeCommand).modPort Port.acked).withdrawn { w with nodeCmd := some c } r).choose := by
  have hlast : (s.answerPending .nodeCommand).LastOk { w with nodeCmd := some c } r :=
    (State.lastOk_of_sound hs hw hr).congr rfl (fun _ => rfl) rfl rfl rfl
  rw [State.pendNodeCmd_pending c hw hr, hlast.withdraws]

/-- A work item whose retry waits is of a node in service and has no node command yet (R17, R32). -/
theorem State.pending_of_sound (hs : s.sound = true) (hw : s.link.work = some w) (hr : w.phase = .retryPending r) :
    (s.node w.node).state ≠ .disabled ∧ w.nodeCmd = none := by
  obtain ⟨-, hinv⟩ := State.inv_of_sound hs
  have hitem := hinv.work.item w hw
  have hattempt := hinv.work.attempt w hw
  refine ⟨hitem.served, ?_⟩
  by_contra hc
  have hsup := hitem.command hc
  rw [State.AttemptOk, hr] at hattempt
  simp [State.retryAgrees, hsup] at hattempt

/-! ## NODE_DISABLE -/

/-- Settles O50: the check, the immediate effect, and the two ways the command waits for the work item. -/
theorem nodeDisableTakesOutOfService : Obligations.NodeDisableTakesOutOfService := by
  intro s n hw harg port x
  have hrow := exec_nodeDisable hw harg
  have hpend {w : WorkItem} (hx : x.state ≠ .disabled) (hwork : s.link.work = some w) (hn : w.node = n) :
      s.nodeDisable n = s.pendNodeCmd .disable := by
    rw [State.nodeDisable, if_neg hx, State.workOf_eq_some.2 ⟨hwork, hn⟩]
  refine ⟨fun h => ?_, fun h hfree => ?_, fun w y h hwork hn hy => ?_, fun w r h hwork hn hr => ?_,
    fun w r hs hwork hn hr => ?_⟩
  · rw [hrow, State.nodeDisable, if_pos h]
    rfl
  · have hevents : stateEvents n x.state .disabled = [(.nodeState, BitVec.ofNat 8 n.val, 0, x.state.code)] := if_neg h
    rw [hrow, State.nodeDisable, if_neg h, State.workOf_none hfree]
    show Host.Outcome.next (((s.answer .ok).disableNode n).modPort Port.acked).handOverRetry = _
    rw [State.disableNode_eq, State.emits_modPort]
    show Host.Outcome.next (State.handOverRetry (State.emits _ (stateEvents n x.state .disabled))) = _
    rw [hevents]
    rfl
  · rw [hrow, hpend h hwork hn, State.pendNodeCmd_inFlight _ hwork hy]
    rfl
  · obtain ⟨t, y, ht, hnode, hport, hcmd⟩ := State.pendNodeCmd_withdraws .disable hwork hn hr
    have hstate := congrArg Node.state hnode
    exact ⟨t, by rw [hrow, hpend h hwork hn, ht], hstate, hport, hcmd⟩
  · obtain ⟨hx, -⟩ := State.pending_of_sound hs hwork hr
    rw [hn] at hx
    rw [hrow, hpend hx hwork hn, State.pendNodeCmd_sound _ hs hwork hr]
    rfl

/-! ## NODE_REPROBE -/

/-- Settles O51: the two checks, the immediate effect with the boundary it may form, and the two ways the command waits. -/
theorem nodeReprobeReturnsToProbing : Obligations.NodeReprobeReturnsToProbing := by
  intro s n hw harg port x refused probing announced needsGapProbe
  have hrow := exec_nodeReprobe hw harg
  have hrefused (h : s.nodeReprobe n = s.refuseCommand) : exec .nodeReprobe s = .next refused.handOverRetry := by
    rw [hrow, h]
    rfl
  have hpend {w : WorkItem} (hx : x.state ≠ .disabled) (hwork : s.link.work = some w) (hn : w.node = n)
      (hc : w.nodeCmd ≠ some .disable) : s.nodeReprobe n = s.pendNodeCmd .reprobe := by
    rw [State.nodeReprobe, if_neg hx, State.workOf_eq_some.2 ⟨hwork, hn⟩]
    exact if_neg hc
  let v : State := (s.answer .ok).reprobeNode n
  have hv : v = _ := (s.answer .ok).reprobeNode_eq n
  have hport : v.modPort Port.acked = announced := by
    rw [hv, State.emits_modPort]
    show State.emits probing (stateEvents n x.state .probing) = if x.state = .probing then probing else _
    unfold stateEvents
    split <;> rfl
  have hnode : v.node n = { x with state := .probing, failCount := 0, matchState := false, reprobe := 0 } := by
    rw [hv, State.emits_node]
    exact State.modNode_node_same (s.answer .ok) n _
  have hlink : v.link = s.link := by
    rw [hv, State.emits_link]
    rfl
  have hengine : v.engine = s.engine := by
    rw [hv, State.emits_engine]
    rfl
  have hslots : v.slots = s.slots := by
    rw [hv, State.emits_eq]
    rfl
  have hneeds : v.needsGapProbe n = true ↔ needsGapProbe := by
    rw [State.needsGapProbe_probing (by rw [hnode]), hnode, hslots, hengine]
  have hnow (h : x.state ≠ .disabled) (hfree : ∀ w, s.link.work = some w → w.node ≠ n) :
      exec .nodeReprobe s = .next (v.probingEnd n Port.acked) := by
    rw [hrow, State.nodeReprobe, if_neg h, State.workOf_none hfree]
    rfl
  have hfree (h : s.link.work = none) (w : WorkItem) (hwork : s.link.work = some w) : w.node ≠ n := by
    rw [h] at hwork
    cases hwork
  refine ⟨fun h => ?_, fun w hwork hn hc => ?_, fun h hother hbusy => ?_,
    fun h hwait hidle => ⟨fun hgap => ?_, fun hgap => ?_⟩, fun h hother => ?_, fun w y h hwork hn hy hc => ?_,
    fun w r h hwork hn hr hc => ?_, fun w r hs hwork hn hr => ?_⟩
  · exact hrefused (if_pos h)
  · refine hrefused ?_
    rw [State.nodeReprobe, State.workOf_eq_some.2 ⟨hwork, hn⟩]
    simp only [hc, if_true, ite_self]
  · rw [hnow h hother, State.probingEnd_busy, hport]
    rwa [hlink, hengine]
  · rw [hnow h (hfree hidle), State.probingEnd_needed _ (by rw [hengine, hwait]) (by rw [hlink, hidle]) (hneeds.2 hgap), hport]
  · rw [hnow h (hfree hidle), State.probingEnd_unneeded _ (by rw [hlink, hidle]) fun hp => hgap (hneeds.1 hp), hport]
  · have hchosen := v.chosen_probingEnd n Port.acked
    have hlast : (v.probingEnd n Port.acked |>.node n).apart = (v.node n).apart := hchosen.node n
    rw [hnode] at hlast
    have hstate := congrArg Node.state hlast
    have hcount := congrArg Node.failCount hlast
    have hcmd : v.cmd = probing.cmd := by
      rw [hv, State.emits_cmd]
      rfl
    exact ⟨_, hnow h hother, hstate, hcount, hchosen.cmd.trans hcmd⟩
  · rw [hrow, hpend h hwork hn hc, State.pendNodeCmd_inFlight _ hwork hy]
    rfl
  · obtain ⟨t, y, ht, hlast, hport, hcmd⟩ := State.pendNodeCmd_withdraws .reprobe hwork hn hr
    have hstate := congrArg Node.state hlast
    have hcount := congrArg Node.failCount hlast
    exact ⟨t, by rw [hrow, hpend h hwork hn hc, ht], hstate, hcount, hport, hcmd⟩
  · obtain ⟨hx, hnone⟩ := State.pending_of_sound hs hwork hr
    rw [hn] at hx
    rw [hrow, hpend hx hwork hn (by rw [hnone]; nofun), State.pendNodeCmd_sound _ hs hwork hr]
    rfl

/-! ## CANCEL -/

theorem exec_cancel (h : Byte) (hw : s.writingAt 0x03A) : exec (.cancel h) s =
    .next ((s.withHandle h State.cancelEntry).modPort Port.tookByte).handOverRetry :=
  exec_writing_at (c := .cancel h) rfl (r := .txnCancel) (by decide) hw

theorem State.cancelEntry_free {e : TxnIx} (h : (s.txn e).state = .free) : s.cancelEntry e = s.raiseHere .badHandle := by
  rw [State.cancelEntry, h]

theorem State.cancelEntry_reserved {e : TxnIx} (h : (s.txn e).state = .reserved) :
    s.cancelEntry e = s.modTxn e Txn.freed := by
  rw [State.cancelEntry, h]

theorem State.cancelEntry_queued {e : TxnIx} (h : (s.txn e).state = .queued) : s.cancelEntry e = s.cancelQueued e := by
  rw [State.cancelEntry, h]

theorem State.cancelEntry_terminal {e : TxnIx}
    (h : (s.txn e).state = .done ∨ (s.txn e).state = .failed ∨ (s.txn e).state = .cancelled) :
    s.cancelEntry e = s.raiseHere .tooLate := by
  obtain h | h | h := h <;> rw [State.cancelEntry, h]

/-- An ACTIVE entry with its cancel mark set (R142). -/
def State.marked (s : State) (e : TxnIx) : State := s.modTxn e fun t => { t with cancelMark := true }

/-- The cancel of an ACTIVE entry marks it and suppresses the retries of its work item (R142). -/
theorem State.cancelEntry_active {h : Byte} (hx : (s.txn (entryOf h)).state = .active) (hw : s.link.work = some w)
    (hc : w.cls = .txn h) : s.cancelEntry (entryOf h) =
      ((s.marked (entryOf h)).modLink fun l => { l with work := some { w with suppressed := true } }).withdrawRetry := by
  have hwork : (s.marked (entryOf h)).link.work = some w := hw
  rw [State.cancelEntry, hx, ← State.suppress_eq hwork]
  show (s.marked (entryOf h)).suppressTxn (entryOf h) = _
  rw [State.suppressTxn, hwork]
  simp only [hc, if_true]

theorem State.cancelEntry_pending {h : Byte} (hx : (s.txn (entryOf h)).state = .active) (hw : s.link.work = some w)
    (hc : w.cls = .txn h) (hr : w.phase = .retryPending r) :
    s.cancelEntry (entryOf h) = ((s.marked (entryOf h)).finishWork w r).choose := by
  rw [State.cancelEntry_active hx hw hc, State.withdrawRetry_pending (w := { w with suppressed := true }) rfl hr,
    State.finishWork_suppressed]

theorem State.endTxn_entry (s : State) (e : TxnIx) (r : Completion) :
    (s.endTxn e r).order = s.order ∧ (s.endTxn e r).txn e = (s.txn e).ended r := by
  rw [State.endTxn_eq s e rfl]
  refine ⟨State.emits_order _ _, ?_⟩
  rw [State.txn, State.emits_txns]
  exact s.setTxn_txn_same e _

/-- The entry of a transaction at the end of its work item, which does not touch the pending order (R138). -/
theorem State.finishWork_entry {k : Byte} (hc : w.cls = .txn k) : (s.finishWork w r).order = s.order ∧
    (s.finishWork w r).txn (entryOf k) = (s.txn (entryOf k)).ended r := by
  obtain ⟨es, h⟩ := s.finishWork_shape w r
  obtain ⟨horder, hentry⟩ := (s.modLink fun l => { l with work := none }).endTxn_entry (entryOf k) r
  rw [hc] at h
  rw [h]
  refine ⟨(State.emits_order _ _).trans horder, ?_⟩
  rw [State.txn, State.emits_txns]
  exact hentry

/-- An entry ACTIVE and a handle that names it, where a transaction's retry waits (R131, R136). -/
theorem State.handleValid_of_sound {h : Byte} (hs : s.sound = true) (hw : s.link.work = some w) (hc : w.cls = .txn h) :
    s.handleValid h = true ∧ (s.txn (entryOf h)).state = .active := by
  obtain ⟨-, hinv⟩ := State.inv_of_sound hs
  have hhandle := congrArg BitVec.toNat ((hinv.work.item w hw).handle_txn hc)
  have hentry := entryOf_toNat h
  rw [State.handle, handleOf_eq_ofNat, BitVec.toNat_ofNat] at hhandle
  refine ⟨(s.handleValid_iff h).2 (by omega), (hinv.txns.active (entryOf h)).1 ?_⟩
  rw [Link.carried_of_work hw, hc]
  rfl

theorem State.cancelQueued_eq (s : State) (e : TxnIx) : s.cancelQueued e = State.emit { s with
    order := s.order.erase e
    txns := s.txns.set e { s.txn e with
      state := .cancelled, result := some .cancelled, attempts := 0, replyStatus := 0
      rdata := Vector.replicate 8 0, cancelMark := false } } .txnEnd (s.txn e).node (s.handle e) 7 := by
  unfold State.cancelQueued State.emitTxnEnd State.handle
  simp only [State.modTxn_txn_same]
  rfl

/-- Settles O56: the handle's check, then the entry's state, and the two ways an ACTIVE entry's work item goes on. -/
theorem cancelActsOnEntry : Obligations.CancelActsOnEntry := by
  intro s h hw e x valid refused
  have hcheck : s.handleValid h = true ↔ valid := s.handleValid_iff h
  have hrow (hv : valid) : exec (.cancel h) s = .next ((s.cancelEntry e).modPort Port.tookByte).handOverRetry := by
    rw [exec_cancel h hw, State.withHandle_valid (hcheck.2 hv)]
  refine ⟨fun hbad => ?_, fun hv hx => ?_, fun hv hx => ?_, fun hv hx => ?_, fun w y hv hx hwork hc hy => ?_,
    fun w r hv hx hout hwork hc hr hfailed => ?_, fun w r hs hwork hc hr => ?_⟩
  · have hraise : s.withHandle h State.cancelEntry = s.raiseHere .badHandle := by
      by_cases hv : s.handleValid h = true
      · rw [State.withHandle_valid hv, State.cancelEntry_free (hbad.resolve_left (not_not_intro (hcheck.1 hv)))]
      · exact State.withHandle_invalid hv _
    rw [exec_cancel h hw, hraise, State.raiseHere_took hw]
  · rw [hrow hv, State.cancelEntry_terminal hx, State.raiseHere_took hw]
  · rw [hrow hv, State.cancelEntry_reserved hx]
    rfl
  · rw [hrow hv, State.cancelEntry_queued hx, State.cancelQueued_eq, State.handle_of_valid (hcheck.2 hv), ← State.emit_modPort]
    rfl
  · rw [hrow hv, State.cancelEntry_active hx hwork hc,
      State.withdrawRetry_inFlight (w := { w with suppressed := true }) rfl hy]
    rfl
  · obtain ⟨horder, hentry⟩ := State.finishWork_entry (s := s.marked e) (r := r) hc
    have hport := (State.kept_choose (((s.marked e).finishWork w r).modPort Port.tookByte)).port
    have hkept := ((s.marked e).kept_finishWork w r).port
    have hlast : (((s.marked e).finishWork w r).modPort Port.tookByte).choose.txn e = ((s.marked e).txn e).ended r := by
      rw [State.choose_txn, State.modPort_txn, hentry]
      rw [State.modPort_order, horder]
      exact hout
    have hmarked : ((s.marked e).txn e).cancelMark = true := by
      rw [State.marked, State.modTxn_txn_same]
    refine ⟨(((s.marked e).finishWork w r).modPort Port.tookByte).choose, ?_, ?_, ?_, hport.trans ?_⟩
    · rw [hrow hv, State.cancelEntry_pending hx hwork hc hr, State.finishWork_took]
    · rw [hlast]
      simp only [Txn.ended, hfailed, hmarked, if_false, if_true]
    · rw [hlast]
      simp only [Txn.ended, hfailed, hmarked, if_false, if_true]
    · rw [State.modPort_port, hkept]
      rfl
  · obtain ⟨hvalid, hx⟩ := State.handleValid_of_sound hs hwork hc
    have hgen (k : TxnIx) : ((s.marked e).txn k).gen = (s.txn k).gen := by
      rw [State.marked, State.modTxn_txn]
      split
      · next hk => rw [hk]
      · rfl
    have hlast : (s.marked e).LastOk w r := (State.lastOk_of_sound hs hwork hr).congr rfl hgen rfl rfl rfl
    rw [hrow (hcheck.1 hvalid), State.cancelEntry_pending hx hwork hc hr, hlast.withdraws]
    rfl

end Sys2Proof.Machine
end
